-- ==== Sys2Proof/Word.lean ====
section
/-! DEFINITION. The words of the block: every register and field is an unsigned bit vector, bit 0 least significant (R10). -/

namespace Sys2Proof

/-- Eight bits: a history register, a press counter, the tick counter, the divisor, a slot byte, a response
(`10_state.md` R15). -/
abbrev Byte := BitVec 8

/-- The 16-bit frame counter (R20). -/
abbrev Frame := BitVec 16

/-- The 16-bit command word (R56). -/
abbrev CmdWord := BitVec 16

/-- The 22-bit stimulus vector, all inputs of one instant (R55). -/
abbrev StimVec := BitVec 22

/-- The 22-bit output vector of one instant (R63). -/
abbrev OutVec := BitVec 22

end Sys2Proof
end

