-- ==== Sys2Proof/Machine/Operands.lean ====
section
/-! DEFINITION. The fields of the command word (R56) and the operands assembled from them (R57): unsigned, used as they
stand, nothing sign-extended, scaled or shifted. -/

namespace Sys2Proof.Machine

/-- `op = cmd[15:12]` (R56). -/
def opField (w : CmdWord) : BitVec 4 := w.extractLsb' 12 4

/-- `a = cmd[11:8]` (R56). -/
def aField (w : CmdWord) : BitVec 4 := w.extractLsb' 8 4

/-- `imm = cmd[7:0]` (R56). -/
def immField (w : CmdWord) : Byte := w.extractLsb' 0 8

/-- `ch = cmd[8]` (R57). -/
def chOperand (w : CmdWord) : BitVec 1 := w.extractLsb' 8 1

/-- `slot = cmd[9:8]` (R57). -/
def slotOperand (w : CmdWord) : BitVec 2 := w.extractLsb' 8 2

/-- `n`, `v` and `d` are `cmd[7:0]` (R57). -/
def immOperand (w : CmdWord) : Byte := immField w

/-- A command word put together from its three fields (R56). -/
def packCmd (op a : BitVec 4) (imm : Byte) : CmdWord := op ++ a ++ imm

/-- The raw sample of channel `ch`: `sw[ch]` (R55, R77). -/
def sampleOf (sw : BitVec 2) (ch : BitVec 1) : BitVec 1 := sw.extractLsb' ch.toNat 1

end Sys2Proof.Machine
end

