-- ==== Sys2Proof/Config.lean ====
section
/-! DEFINITION. The implementation parameters of `00_scope.md` R6 to R8, each under its own name, and the one free value.
The parameters that fix the shape or the width of a register are named constants, since they stand in State's types.
The others are fields of `Config`, so that a claim can name them or quantify over them (log entry 1). -/

namespace Sys2Proof

/-- N_CH, number of switch channels (R6). -/
def Config.nCh : Nat := 2
/-- HIST_W, stored bits of each history register (R6; `90_conflicts.md` C4). -/
def Config.histW : Nat := 8
/-- CNT_W, stored bits of each press counter (R6). -/
def Config.cntW : Nat := 8
/-- TICK_W, bits of the tick counter (R6, decision D6). -/
def Config.tickW : Nat := 8
/-- N_DIG, digit slots and digit-enable lines (R8). -/
def Config.nDig : Nat := 4
/-- FRAME_W, bits of the frame counter (R8, decision D8; `90_conflicts.md` C6). -/
def Config.frameW : Nat := 16
/-- DIM_W, bits of the divisor (R8, decision D9). -/
def Config.dimW : Nat := 8
/-- SLOT_W, bits of one display-buffer slot and of the segment bus (R8; `90_conflicts.md` C1). -/
def Config.slotW : Nat := 8
/-- ROT_FIELD is bits [5:0]: the width of the rotated field (R8). -/
def Config.rotFieldW : Nat := 6
/-- CLOSED, the sample value of a pressed button (R6). -/
def Config.closed : BitVec 1 := 0
/-- OPEN, the sample value of a released button (R6). -/
def Config.opened : BitVec 1 := 1

/-- The parameters of R6, R7 and R8 that are values. -/
structure Config where
  /-- DEB_WIN: how many of the most recent samples must all be closed. -/
  debWin : Nat
  /-- REBASE_AT: a press counter above this is rebased. -/
  rebaseAt : Byte
  /-- REBASE_TO: what it is rebased to. -/
  rebaseTo : Byte
  /-- LONG_THRESH: a press counter strictly above this classifies LONG. -/
  longThresh : Byte
  /-- GUARD_LONG: guard delay after LONG, in ticks. -/
  guardLong : Byte
  /-- GUARD_SHORT: guard delay after SHORT, in ticks. -/
  guardShort : Byte
  /-- EV_NONE, the response code of NONE. -/
  evNone : Byte
  /-- EV_SHORT, the response code of SHORT. -/
  evShort : Byte
  /-- EV_LONG, the response code of LONG. -/
  evLong : Byte
  /-- CH_ADJUST: which channel is the source's adjust button; no rule of the block reads it. -/
  chAdjust : BitVec 1
  /-- CH_ADVANCE: which channel is the source's advance button; no rule of the block reads it. -/
  chAdvance : BitVec 1
  /-- LIT_WIN: a refresh is lit iff the dimming phase is below this. -/
  litWin : Nat
  /-- DIM_MIN: the smallest value the divisor can hold. -/
  dimMin : Byte
  /-- DIM_RESET: the divisor after reset. -/
  dimReset : Byte
  /-- ROT_SLOT: the slot rotated at commit. -/
  rotSlot : BitVec 2
  /-- ROT_AMT: the rotation amount inside ROT_FIELD. -/
  rotAmt : Nat
  /-- COMMIT_ATOMIC: whether COMMIT copies all four slots in one instant. -/
  commitAtomic : Bool
  /-- HIST_RESET: a history register after reset. -/
  histReset : Byte
  /-- DP_BIT: which of slot bits 7:6 is the decimal point; no rule of the block reads it. -/
  dpBit : Nat
  deriving DecidableEq, Repr

/-- The values this hardware takes: the value column of R6, R7 and R8. -/
def Config.hardware : Config where
  debWin := 4
  rebaseAt := 250
  rebaseTo := 100
  longThresh := 150
  guardLong := 30
  guardShort := 60
  evNone := 0x00
  evShort := 0x01
  evLong := 0x02
  chAdjust := 0
  chAdvance := 1
  litWin := 4
  dimMin := 4
  dimReset := 4
  rotSlot := 2
  rotAmt := 3
  commitAtomic := false
  histReset := 0xFF
  dpBit := 7

/-- FREE VALUE (log entry 3): the stimulus vector the environment presents at an instant for which no trace line has
been placed. `70_reset_and_hazards.md` R147 makes every sequence of vectors a legal input, so nothing constrains it. -/
opaque Config.freeStim : Nat → StimVec

end Sys2Proof
end

