-- ==== Sys2Proof/Syntax.lean ====
section
/-! DEFINITION. The operations of the block (one constructor per row of `opcode_table.json`), the stimulus vector as
named fields (R55), the classifier's events (R90), and the trace syntax of `30_encoding.md` R65 and R66. -/

namespace Sys2Proof

/-- The fourteen operations, in the order of `opcode_table.json`. -/
inductive Instr where
  /-- RESET (R105), selected by `stim.rst`. -/
  | reset
  /-- REFRESH (R70), selected by `stim.refresh_stb`. -/
  | refresh
  /-- TICK (R77), selected by `stim.tick_stb`; bit `ch` of `sw` is the raw sample of channel `ch`. -/
  | tick (sw : BitVec 2)
  /-- WAITCHECK (R86), internal to the tick phase, while the host port waits. -/
  | waitcheck
  /-- COMMITSTEP (R100), internal to the host phase, while a commit is in progress. -/
  | commitstep
  /-- NOP (R104). -/
  | nop
  /-- CLASSIFY ch (R91). -/
  | classify (ch : BitVec 1)
  /-- DELAY n (R84). -/
  | delay (n : Byte)
  /-- RDTICK (R87). -/
  | rdtick
  /-- WRPEND slot, v (R98). -/
  | wrpend (slot : BitVec 2) (v : Byte)
  /-- COMMIT (R99, R101). -/
  | commit
  /-- SETDIM d (R71). -/
  | setdim (d : Byte)
  /-- The reserved opcode 0x7 (R106). -/
  | reserved7
  /-- The reserved opcodes 0x8 to 0xF (R106); `op` is the low three bits of the opcode. -/
  | reserved8F (op : BitVec 3)
  deriving DecidableEq, Repr

/-- The fields of the stimulus vector (R55). -/
structure Stim where
  rst : Bool
  refreshStb : Bool
  tickStb : Bool
  sw : BitVec 2
  cmdValid : Bool
  cmd : CmdWord
  deriving DecidableEq, Repr

/-- The classifier's result (R90); its numeric code is used at the port only (decision D4). -/
inductive Event where
  | none
  | short
  | long
  deriving DecidableEq, Repr

/-- One item of a trace line (R65), operands as the numbers written in the line. -/
inductive TraceItem where
  | reset
  | refresh
  | tick
  | sw (b1 b0 : Nat)
  | nop
  | classify (ch : Nat)
  | delay (n : Nat)
  | rdtick
  | wrpend (slot v : Nat)
  | commit
  | setdim (d : Nat)
  | idle
  deriving DecidableEq, Repr

/-- One line of a trace: the items joined by plus signs, one instant (R65). -/
abbrev TraceLine := List TraceItem

/-- A line or a pseudo-operation of the trace syntax (R66). -/
inductive TraceStmt where
  | line (l : TraceLine)
  | rep (n : Nat) (body : List TraceLine)
  | ticks (n b1 b0 : Nat)
  | refreshes (n : Nat)
  | idles (n : Nat)
  | press (ch n : Nat)
  | release (n : Nat)
  | load (v0 v1 v2 v3 : Nat)
  deriving DecidableEq, Repr

end Sys2Proof
end

