-- ==== Sys2Proof/WellFormed.lean ====
section
/-! DEFINITION. What is checked of terms: the ranges of a configuration's parameters (R8 and R35 where they give one, else the
model's own, log entry 21), which operations have an encoding of their own (R86, R100), and the operand ranges and shape
of trace lines (R57, R65, R66). -/

namespace Sys2Proof

/-- The window holds at least one sample and lies inside the stored history. R6 gives DEB_WIN a value and no range: this
one is the model's own (DESIGN CHOICE, log entry 21). -/
def Config.windowOk (c : Config) : Bool := decide (1 ≤ c.debWin) && decide (c.debWin ≤ Config.histW)

/-- Rebasing never leaves a counter above REBASE_AT. R6 and R78 give the two values and no relation between them: this one
is the model's own (DESIGN CHOICE, log entry 21). -/
def Config.rebaseOk (c : Config) : Bool := decide (c.rebaseTo.toNat ≤ c.rebaseAt.toNat)

/-- DIM_MIN is at least 1 (R8, decision D9) and the divisor is legal, not below DIM_MIN, after reset (R35). -/
def Config.dimOk (c : Config) : Bool := decide (1 ≤ c.dimMin.toNat) && decide (c.dimMin.toNat ≤ c.dimReset.toNat)

/-- The decimal point is bit 6 or 7 (R8, decision D14). The rotation amount is below the field's width: R8 gives ROT_AMT a
value and no range, and this one is the model's own (DESIGN CHOICE, log entry 21). -/
def Config.slotOk (c : Config) : Bool := (c.dpBit == 6 || c.dpBit == 7) && decide (c.rotAmt < Config.rotFieldW)

/-- A configuration is legal: it meets the spec's constraints on DIM_MIN, DIM_RESET and DP_BIT, and the model's own ranges
of DEB_WIN, REBASE_TO and ROT_AMT (log entry 21). The machine runs under every configuration, legal or not. -/
def Config.wf (c : Config) : Bool := c.windowOk && c.rebaseOk && c.dimOk && c.slotOk

/-- The operation can be asked for by a stimulus vector. WAITCHECK and COMMITSTEP have no encoding of their own:
the state selects them (R86, R100). Every operand has exactly its field's width, so no operand can be out of range (R42). -/
def Instr.wf : Instr → Bool
  | .waitcheck => false
  | .commitstep => false
  | .reset => true
  | .refresh => true
  | .tick _ => true
  | .nop => true
  | .classify _ => true
  | .delay _ => true
  | .rdtick => true
  | .wrpend _ _ => true
  | .commit => true
  | .setdim _ => true
  | .reserved7 => true
  | .reserved8F _ => true

/-- The operands of a trace item are in the ranges of R57. -/
def TraceItem.wf : TraceItem → Bool
  | .sw b1 b0 => decide (b1 < 2) && decide (b0 < 2)
  | .classify ch => decide (ch < 2)
  | .delay n => decide (n < 256)
  | .wrpend slot v => decide (slot < 4) && decide (v < 256)
  | .setdim d => decide (d < 256)
  | .reset => true
  | .refresh => true
  | .tick => true
  | .nop => true
  | .rdtick => true
  | .commit => true
  | .idle => true

/-- The item sets `cmd_valid` (R65). -/
def TraceItem.isCommand : TraceItem → Bool
  | .nop => true
  | .classify _ => true
  | .delay _ => true
  | .rdtick => true
  | .wrpend _ _ => true
  | .commit => true
  | .setdim _ => true
  | .reset => false
  | .refresh => false
  | .tick => false
  | .sw _ _ => false
  | .idle => false

/-- The item sets the button samples (R65). -/
def TraceItem.isSw : TraceItem → Bool
  | .sw _ _ => true
  | _ => false

/-- "At most one command item per line" (R65). -/
def TraceLine.oneCommand (l : TraceLine) : Bool := decide (l.countP TraceItem.isCommand ≤ 1)

/-- At most one SW item per line: R65 does not say which of two would count (log entry 16). -/
def TraceLine.oneSw (l : TraceLine) : Bool := decide (l.countP TraceItem.isSw ≤ 1)

/-- IDLE is "a line with no strobe and no command" (R65): it stands alone, or beside SW or another IDLE. IDLE beside RESET
is refused too: R65 leaves it open, since `rst` is neither a strobe nor a command, so this is the model's choice (DESIGN
CHOICE, log entry 16). -/
def TraceLine.idleAlone (l : TraceLine) : Bool :=
  !l.contains .idle || l.all fun i => i == .idle || i.isSw

/-- A line is well formed. The line with no items, blank or only a comment, is well formed and takes an instant that sets
nothing, like IDLE: R65 is silent on it, so this is the model's choice (DESIGN CHOICE, log entry 16). -/
def TraceLine.wf (l : TraceLine) : Bool :=
  l.all TraceItem.wf && TraceLine.oneCommand l && TraceLine.oneSw l && TraceLine.idleAlone l

/-- A line or pseudo-operation is well formed. -/
def TraceStmt.wf : TraceStmt → Bool
  | .line l => TraceLine.wf l
  | .rep _ body => body.all TraceLine.wf
  | .ticks _ b1 b0 => decide (b1 < 2) && decide (b0 < 2)
  | .refreshes _ => true
  | .idles _ => true
  | .press ch _ => decide (ch < 2)
  | .release _ => true
  | .load v0 v1 v2 v3 => decide (v0 < 256) && decide (v1 < 256) && decide (v2 < 256) && decide (v3 < 256)

end Sys2Proof
end

