-- ==== Sys2Proof/Decode.lean ====
section
/-! DEFINITION. Decoding one instant and encoding it back (`30_encoding.md`).

A stimulus vector selects several rows of `opcode_table.json` at once, so decoding answers a LIST: every row whose
pattern the vector matches, in the phase order of R67. The rows with a state condition (WAITCHECK, COMMITSTEP, the
commands) are then kept or dropped by the host state at the start of the instant (`Machine.selected`). -/

namespace Sys2Proof

/-- The fields of a stimulus vector (R55). -/
def Stim.ofVector (v : StimVec) : Stim where
  rst := v.getLsbD 21
  refreshStb := v.getLsbD 20
  tickStb := v.getLsbD 19
  sw := v.extractLsb' 17 2
  cmdValid := v.getLsbD 16
  cmd := v.extractLsb' 0 16

/-- One instruction per command word: `EXECUTE`'s dispatch on `cmd[15:12]` (R58, R109), total over all 65536 words.
Ignored fields are not looked at (R60). -/
def decodeCmd (w : CmdWord) : Instr :=
  match (Machine.opField w).toNat with
  | 0 => .nop
  | 1 => .classify (Machine.chOperand w)
  | 2 => .delay (Machine.immOperand w)
  | 3 => .rdtick
  | 4 => .wrpend (Machine.slotOperand w) (Machine.immOperand w)
  | 5 => .commit
  | 6 => .setdim (Machine.immOperand w)
  | 7 => .reserved7
  | _ => .reserved8F (w.extractLsb' 12 3)

/-- Every table row the fields match, in phase order (R58, R67): RESET alone, or else REFRESH, TICK with WAITCHECK, the
presented command, COMMITSTEP. -/
def decodeFields (f : Stim) : List Instr :=
  if f.rst then [.reset]
  else
    (if f.refreshStb then [.refresh] else [])
      ++ (if f.tickStb then [.tick f.sw, .waitcheck] else [])
      ++ (if f.cmdValid then [decodeCmd f.cmd] else [])
      ++ [.commitstep]

/-- The rows a stimulus vector matches. -/
def decode (v : StimVec) : List Instr := decodeFields (Stim.ofVector v)

/-- Why a number is no stimulus vector. -/
inductive DecodeReject where
  /-- A bit above bit 21 is set: the format has 22 bits and no other length (R55, R64). -/
  | bitsAbove21
  deriving DecidableEq, Repr

/-- Decoding of any number: the rows of a 22-bit vector, or a rejection by name. -/
def decodeNat (w : Nat) : Except DecodeReject (List Instr) :=
  if w < 2 ^ 22 then .ok (decode (BitVec.ofNat 22 w)) else .error .bitsAbove21

/-- The instruction the decoder reads from a word of the opcode table: the first operation, in phase order, of the rows
it matches (log entry 12). Bit 0 of `w` is `stim[0]`; the vector is presented in parallel, so there is no byte order (R41). -/
def decodeTableWord (_nbits w : Nat) : Option Instr :=
  match decodeNat w with
  | .ok ops => ops.head?
  | .error _ => none

/-! ### The encoder -/

/-- The stimulus vector with the given fields (R55). -/
def Stim.toVector (f : Stim) : StimVec :=
  BitVec.ofBool f.rst ++ BitVec.ofBool f.refreshStb ++ BitVec.ofBool f.tickStb ++ f.sw ++ BitVec.ofBool f.cmdValid
    ++ f.cmd

/-- A field no item sets is 0, except `sw`, which is 0b11 (R65). -/
def Stim.quiet : Stim where
  rst := false
  refreshStb := false
  tickStb := false
  sw := 3
  cmdValid := false
  cmd := 0

/-- The command word of a host command; ignored fields are written as zero (R58, R60). For an operation that is no
command it is the all-zero word, which the encoder does not present. -/
def encodeCmd : Instr → CmdWord
  | .nop => 0x0000
  | .classify ch => Machine.packCmd 1 (ch.setWidth 4) 0
  | .delay n => Machine.packCmd 2 0 n
  | .rdtick => Machine.packCmd 3 0 0
  | .wrpend slot v => Machine.packCmd 4 (slot.setWidth 4) v
  | .commit => Machine.packCmd 5 0 0
  | .setdim d => Machine.packCmd 6 0 d
  | .reserved7 => Machine.packCmd 7 0 0
  | .reserved8F op => Machine.packCmd (1#1 ++ op) 0 0
  | .reset => 0
  | .refresh => 0
  | .tick _ => 0
  | .waitcheck => 0
  | .commitstep => 0

/-- The operation is presented through `cmd_valid` and `cmd` (R58). -/
def Instr.isCommand : Instr → Bool
  | .nop => true
  | .classify _ => true
  | .delay _ => true
  | .rdtick => true
  | .wrpend _ _ => true
  | .commit => true
  | .setdim _ => true
  | .reserved7 => true
  | .reserved8F _ => true
  | .reset => false
  | .refresh => false
  | .tick _ => false
  | .waitcheck => false
  | .commitstep => false

/-- The operation is performed in the host phase, phase 3 of R67. -/
def Instr.isHostPort (i : Instr) : Bool := i.isCommand || i == .commitstep

/-- The fields that ask for one operation alone. WAITCHECK runs at an instant with a tick strobe and COMMITSTEP at any
instant, so their fields are those of a TICK and of an IDLE line. -/
def encodeFields : Instr → Stim
  | .reset => { Stim.quiet with rst := true }
  | .refresh => { Stim.quiet with refreshStb := true }
  | .tick sw => { Stim.quiet with tickStb := true, sw := sw }
  | .waitcheck => { Stim.quiet with tickStb := true }
  | .commitstep => Stim.quiet
  | .nop => { Stim.quiet with cmdValid := true, cmd := encodeCmd .nop }
  | .classify ch => { Stim.quiet with cmdValid := true, cmd := encodeCmd (.classify ch) }
  | .delay n => { Stim.quiet with cmdValid := true, cmd := encodeCmd (.delay n) }
  | .rdtick => { Stim.quiet with cmdValid := true, cmd := encodeCmd .rdtick }
  | .wrpend slot v => { Stim.quiet with cmdValid := true, cmd := encodeCmd (.wrpend slot v) }
  | .commit => { Stim.quiet with cmdValid := true, cmd := encodeCmd .commit }
  | .setdim d => { Stim.quiet with cmdValid := true, cmd := encodeCmd (.setdim d) }
  | .reserved7 => { Stim.quiet with cmdValid := true, cmd := encodeCmd .reserved7 }
  | .reserved8F op => { Stim.quiet with cmdValid := true, cmd := encodeCmd (.reserved8F op) }

/-- The stimulus vector that asks for one operation alone. -/
def encode (i : Instr) : StimVec := (encodeFields i).toVector

/-! ### The opcode table's own columns -/

/-- A row of `opcode_table.json`: its mnemonic, match and mask over `stim[21:0]`. -/
structure OpRow where
  mnemonic : String
  pattern : StimVec
  mask : StimVec
  deriving DecidableEq, Repr

/-- The table's row of each operation. -/
def Instr.row : Instr → OpRow
  | .reset => ⟨"RESET", 0x200000, 0x200000⟩
  | .refresh => ⟨"REFRESH", 0x100000, 0x300000⟩
  | .tick _ => ⟨"TICK", 0x080000, 0x280000⟩
  | .waitcheck => ⟨"WAITCHECK", 0x080000, 0x280000⟩
  | .commitstep => ⟨"COMMITSTEP", 0x000000, 0x200000⟩
  | .nop => ⟨"NOP", 0x010000, 0x21F000⟩
  | .classify _ => ⟨"CLASSIFY", 0x011000, 0x21F000⟩
  | .delay _ => ⟨"DELAY", 0x012000, 0x21F000⟩
  | .rdtick => ⟨"RDTICK", 0x013000, 0x21F000⟩
  | .wrpend _ _ => ⟨"WRPEND", 0x014000, 0x21F000⟩
  | .commit => ⟨"COMMIT", 0x015000, 0x21F000⟩
  | .setdim _ => ⟨"SETDIM", 0x016000, 0x21F000⟩
  | .reserved7 => ⟨"RESERVED_7", 0x017000, 0x21F000⟩
  | .reserved8F _ => ⟨"RESERVED_8_F", 0x018000, 0x218000⟩

/-- The vector matches the row. -/
def OpRow.matches (r : OpRow) (v : StimVec) : Bool := v &&& r.mask == r.pattern

/-- The fourteen rows, in the table's order. -/
def opTable : List OpRow :=
  [Instr.row .reset, Instr.row .refresh, Instr.row (.tick 0), Instr.row .waitcheck, Instr.row .commitstep,
    Instr.row .nop, Instr.row (.classify 0)]
  ++ [Instr.row (.delay 0), Instr.row .rdtick, Instr.row (.wrpend 0 0), Instr.row .commit, Instr.row (.setdim 0),
    Instr.row .reserved7, Instr.row (.reserved8F 0)]

end Sys2Proof
end

