-- ==== Sys2Proof/Machine/State.lean ====
section
/-! DEFINITION. The state of the block: the fourteen registers and register arrays of `10_state.md` R15, each under its
own name, and four fields of the model's own (configuration, input trace, response output, free-value counter). -/

namespace Sys2Proof.Machine

/-- A register array indexed by channel (R17, R18; spaces CH_HIST and CH_CNT of R40). -/
structure ChannelArray where
  ch0 : Byte
  ch1 : Byte
  deriving DecidableEq, Repr

/-- A register array indexed by slot (R22, R23; spaces PEND and COMM of R40). -/
structure SlotArray where
  slot0 : Byte
  slot1 : Byte
  slot2 : Byte
  slot3 : Byte
  deriving DecidableEq, Repr

/-- The host-port agent's state `hs`, two bits (R26). -/
inductive HostState where
  /-- IDLE = 0: a command can be accepted. -/
  | idle
  /-- WAIT = 1: a DELAY or a guard delay is in progress. -/
  | wait
  /-- COMMIT = 2: a non-atomic commit is in progress. -/
  | commit
  /-- The value 3, never written; `93_implementation_defined.md` U10 says what the hardware does in it (log entry 6). -/
  | unused
  deriving DecidableEq, Repr

/-- Why the machine stops. -/
inductive Fault where
  /-- REFRESH with `dimDivisor = 0`: `frameCounter mod 0` is undefined and `93_implementation_defined.md` U10 names a
  fault. Raised by REFRESH only, in states no legal configuration reaches (R32 item 2). Safe (log entry 7). -/
  | dimDivisorZero
  deriving DecidableEq, Repr

/-- Why an operation has no meaning. -/
inductive Refusal where
  /-- Raised by a refused arm of `exec`, for an operation without a meaning; this model has none. Safe. -/
  | notModelled (mnemonic : String)
  deriving DecidableEq, Repr

/-- The whole state. -/
structure State where
  /-- MODEL'S OWN: the parameters of R6 to R8, read by the operations and written by none (log entry 1). -/
  cfg : Config
  /-- Counts TICK operations modulo 256 (R16). -/
  tickCounter : Byte
  /-- Per channel, the last eight raw samples, newest at bit 0 (R17). -/
  history : ChannelArray
  /-- Per channel, consecutive closed-window ticks, rebased (R18). -/
  pressCounter : ChannelArray
  /-- The digit the next REFRESH serves (R19). -/
  cursor : BitVec 2
  /-- Counts REFRESH operations modulo 65536 (R20). -/
  frameCounter : Frame
  /-- The divisor of the dimming rule (R21). -/
  dimDivisor : Byte
  /-- The display buffer the refresh agent shows (R22). -/
  committed : SlotArray
  /-- The display buffer the host fills (R23). -/
  pending : SlotArray
  /-- The value driven on the segment bus (R24). -/
  seg : Byte
  /-- The four digit-enable lines, 1 = activated (R25). -/
  digEn : BitVec 4
  /-- The host-port agent's state (R26). -/
  hs : HostState
  /-- The tick count at which the current wait ends (R27). -/
  waitTarget : Byte
  /-- The response emitted when the current wait ends (R28). -/
  rspHold : Byte
  /-- The slot the next COMMITSTEP copies (R29). -/
  commitIdx : BitVec 2
  /-- MODEL'S OWN: the response output of the latest instant, `Some v` or `None` (R12, R63; log entry 4). -/
  rsp : Option Byte
  /-- MODEL'S OWN: the stimulus vectors of the instants to come, first one first (R65; log entry 2). -/
  trace : List StimVec
  /-- MODEL'S OWN: how many free stimulus vectors have been used (log entry 3). -/
  freeIdx : Nat
  deriving DecidableEq, Repr

/-- The machine right after reset: the table of R35, this hardware's parameters, no response, no trace placed. -/
def State.reset : State where
  cfg := Config.hardware
  tickCounter := 0
  history := ⟨0xFF, 0xFF⟩
  pressCounter := ⟨0, 0⟩
  cursor := 0
  frameCounter := 0
  dimDivisor := 4
  committed := ⟨0x00, 0x00, 0x00, 0x00⟩
  pending := ⟨0x00, 0x00, 0x00, 0x00⟩
  seg := 0x00
  digEn := 0b0000
  hs := .idle
  waitTarget := 0
  rspHold := 0x00
  commitIdx := 0
  rsp := none
  trace := []
  freeIdx := 0

end Sys2Proof.Machine
end

