-- ==== Sys2Proof/Machine/Flags.lean ====
section
/-! DEFINITION. The block has no condition codes; three derived signals play their part (R30), and the pure functions of
the operation rules stand beside them: the classifier (R90), the debounce arithmetic (R78), the clamp (R71), the rotation
(R96), and the output vector (R63). -/

namespace Sys2Proof.Machine

/-- `winClosed`: the DEB_WIN most recent samples are all closed, on the history after the shift (R30, R78). -/
def winClosed (c : Config) (history : Byte) : Bool := history.toNat % 2 ^ c.debWin == 0

/-- `lit`: `(frameCounter mod dimDivisor) < LIT_WIN`, on the values before the advance (R30, R70). -/
def lit (c : Config) (frameCounter : Frame) (dimDivisor : Byte) : Bool :=
  decide (frameCounter.toNat % dimDivisor.toNat < c.litWin)

/-- `ready`: the host port is idle; `busy` is its negation (R30). -/
def ready (s : State) : Bool := s.hs == .idle

/-- `mod_8((history << 1) | s)`: the oldest sample drops, the newest enters bit 0 (R78). -/
def shiftIn (history : Byte) (sample : BitVec 1) : Byte := (history <<< 1) ||| sample.setWidth 8

/-- The new press counter, from the history after the shift and the old counter, computed in unbounded naturals (R78). -/
def nextCount (c : Config) (history count : Byte) : Byte :=
  let n := if winClosed c history then count.toNat + 1 else 0
  if c.rebaseAt.toNat < n then c.rebaseTo else BitVec.ofNat 8 n

/-- The classification function (R90). -/
def classify (c : Config) (count : Byte) : Event :=
  if c.longThresh < count then .long
  else if 1 ≤ count then .short
  else .none

/-- The event codes EV_NONE, EV_SHORT, EV_LONG (R7, R61). -/
def eventCode (c : Config) : Event → Byte
  | .none => c.evNone
  | .short => c.evShort
  | .long => c.evLong

/-- The guard delay after each result: GUARD_LONG, GUARD_SHORT, none after NONE (R91, R92). -/
def guardTicks (c : Config) : Event → Byte
  | .none => 0
  | .short => c.guardShort
  | .long => c.guardLong

/-- `max(d, DIM_MIN)` (R71). -/
def clampDivisor (c : Config) (d : Byte) : Byte := if d < c.dimMin then c.dimMin else d

/-- `rot`: the low six bits rotated by ROT_AMT, bits 7:6 unchanged (R96). With ROT_AMT = 3 the direction is immaterial;
for another amount it is to the left (log entry 11). -/
def rot (c : Config) (v : Byte) : Byte := v.extractLsb' 6 2 ++ (v.extractLsb' 0 6).rotateLeft c.rotAmt

/-- The output vector of an instant, from the state after it (R63). -/
def outVector (s : State) : OutVec :=
  BitVec.ofBool s.rsp.isSome ++ s.rsp.getD 0 ++ BitVec.ofBool (ready s) ++ s.seg ++ s.digEn

end Sys2Proof.Machine
end

