-- ==== Sys2Proof/Machine/Ops.lean ====
section
/-! DEFINITION. The shared operations: element reads and writes of the four index spaces (R12, R40), the response output,
the wait mechanism (R85, R86), command acceptance (R68), the selection of an instant's operations (R58, R67), and the
taking of a stimulus vector from the environment.

The block raises no exception and returns from none (R110, R115, R116), so there is no exception entry to model. -/

namespace Sys2Proof.Machine

/-! ### Index spaces (R40 to R44): an index has exactly the width of its space, so every access is in range -/

/-- `MemRead` of a channel array. -/
def ChannelArray.get (a : ChannelArray) (ch : BitVec 1) : Byte := if ch = 0 then a.ch0 else a.ch1

/-- `MemWrite` of a channel array. -/
def ChannelArray.set (a : ChannelArray) (ch : BitVec 1) (v : Byte) : ChannelArray :=
  if ch = 0 then { a with ch0 := v } else { a with ch1 := v }

/-- `MemRead` of a slot array. -/
def SlotArray.get (a : SlotArray) (i : BitVec 2) : Byte :=
  if i = 0 then a.slot0 else if i = 1 then a.slot1 else if i = 2 then a.slot2 else a.slot3

/-- `MemWrite` of a slot array. -/
def SlotArray.set (a : SlotArray) (i : BitVec 2) (v : Byte) : SlotArray :=
  if i = 0 then { a with slot0 := v }
  else if i = 1 then { a with slot1 := v }
  else if i = 2 then { a with slot2 := v }
  else { a with slot3 := v }

/-- `MemRead(CH_HIST, ch, 1)`. -/
def readHist (s : State) (ch : BitVec 1) : Byte := s.history.get ch

/-- `MemWrite(CH_HIST, ch, 1, v)`. -/
def writeHist (ch : BitVec 1) (v : Byte) (s : State) : State := { s with history := s.history.set ch v }

/-- `MemRead(CH_CNT, ch, 1)`. -/
def readCnt (s : State) (ch : BitVec 1) : Byte := s.pressCounter.get ch

/-- `MemWrite(CH_CNT, ch, 1, v)`. -/
def writeCnt (ch : BitVec 1) (v : Byte) (s : State) : State := { s with pressCounter := s.pressCounter.set ch v }

/-- `MemRead(PEND, i, 1)`. -/
def readPend (s : State) (i : BitVec 2) : Byte := s.pending.get i

/-- `MemWrite(PEND, i, 1, v)`. -/
def writePend (i : BitVec 2) (v : Byte) (s : State) : State := { s with pending := s.pending.set i v }

/-- `MemRead(COMM, i, 1)`. -/
def readComm (s : State) (i : BitVec 2) : Byte := s.committed.get i

/-- `MemWrite(COMM, i, 1, v)`. -/
def writeComm (i : BitVec 2) (v : Byte) (s : State) : State := { s with committed := s.committed.set i v }

/-! ### Outcomes -/

/-- Go on from a next state; a fault or a refusal ends the instant. -/
def andThen (o : Host.Outcome State Fault Refusal) (f : State → Host.Outcome State Fault Refusal) :
    Host.Outcome State Fault Refusal :=
  match o with
  | .next s => f s
  | .fault r => .fault r
  | .refused r => .refused r

/-! ### The host port -/

/-- `emit Rsp(v)` (R12). -/
def emit (v : Byte) (s : State) : State := { s with rsp := some v }

/-- STARTWAIT(n, v) (R85). -/
def startWait (n v : Byte) (s : State) : State :=
  if n = 0 then emit v s
  else { s with waitTarget := s.tickCounter + n, rspHold := v, hs := .wait }

/-- A command has its effect when the host port is idle, and none whatever when it is busy (R68, R107). -/
def whenIdle (effect : State → State) (s : State) : State := if s.hs = .idle then effect s else s

/-- What a commit writes into slot `i`: the pending byte, rotated on the copy path for ROT_SLOT (R100, R101). -/
def commitByte (s : State) (i : BitVec 2) : Byte :=
  if i = s.cfg.rotSlot then rot s.cfg (readPend s i) else readPend s i

/-- Copy one slot from pending to committed (R100, R101). -/
def copySlot (i : BitVec 2) (s : State) : State := writeComm i (commitByte s i) s

/-! ### The periodic agents -/

/-- CHANNEL_UPDATE(ch, s): shift the sample in, then count or clear, then rebase (R78). -/
def channelUpdate (ch sample : BitVec 1) (s : State) : State :=
  let h := shiftIn (readHist s ch) sample
  writeCnt ch (nextCount s.cfg h (readCnt s ch)) (writeHist ch h s)

/-- `tickCounter <- mod_8(tickCounter + 1)` (R79). -/
def advanceTick (s : State) : State := { s with tickCounter := s.tickCounter + 1 }

/-- Deactivate all digit-enable lines (R70). -/
def blankDigits (s : State) : State := { s with digEn := 0b0000 }

/-- Drive the committed byte of the cursor's digit and activate that digit's line only (R70). -/
def driveDigit (s : State) : State :=
  { s with seg := readComm s s.cursor, digEn := 1#4 <<< s.cursor.toNat }

/-- Advance the cursor modulo 4 and the frame counter modulo 65536 (R70). -/
def advanceFrame (s : State) : State :=
  { s with cursor := s.cursor + 1, frameCounter := s.frameCounter + 1 }

/-! ### Reset -/

/-- Every register at its reset value (R105); the configuration and the environment's fields stay. -/
def resetRegisters (s : State) : State :=
  { s with
    tickCounter := 0
    history := ⟨s.cfg.histReset, s.cfg.histReset⟩
    pressCounter := ⟨0, 0⟩
    cursor := 0
    frameCounter := 0
    dimDivisor := s.cfg.dimReset
    committed := ⟨0x00, 0x00, 0x00, 0x00⟩
    pending := ⟨0x00, 0x00, 0x00, 0x00⟩
    seg := 0x00
    digEn := 0b0000
    hs := .idle
    waitTarget := 0
    rspHold := 0x00
    commitIdx := 0 }

/-! ### Selecting an instant's operations -/

/-- The `state_condition` column of `opcode_table.json`: the host state at the start of the instant that a row needs.
COMMITSTEP's further condition COMMIT_ATOMIC = false is not looked at, as in R67 (log entry 10). -/
def requiredHs : Instr → Option HostState
  | .reset => none
  | .refresh => none
  | .tick _ => none
  | .waitcheck => some .wait
  | .commitstep => some .commit
  | .nop => some .idle
  | .classify _ => some .idle
  | .delay _ => some .idle
  | .rdtick => some .idle
  | .wrpend _ _ => some .idle
  | .commit => some .idle
  | .setdim _ => some .idle
  | .reserved7 => some .idle
  | .reserved8F _ => some .idle

/-- The row's state condition holds at an instant that begins with host state `hs0`. -/
def conditionMet (hs0 : HostState) (i : Instr) : Bool :=
  match requiredHs i with
  | none => true
  | some h => h == hs0

/-- The operations one stimulus vector performs at an instant that begins with host state `hs0`, in phase order (R67). -/
def selected (hs0 : HostState) (v : StimVec) : List Instr := (decode v).filter (conditionMet hs0)

/-- A command is accepted at this instant (R68). -/
def acceptsCommand (s : State) (v : StimVec) : Bool :=
  !(Stim.ofVector v).rst && (Stim.ofVector v).cmdValid && s.hs == .idle

/-! ### The environment -/

/-- The stimulus vector of the next instant: the first line of the trace, or a free value when none is placed. -/
def nextStim (s : State) : StimVec :=
  match s.trace with
  | [] => Config.freeStim s.freeIdx
  | v :: _ => v

/-- The state at the start of the next instant: its stimulus vector is taken, and no response has been emitted (R67). -/
def beginInstant (s : State) : State :=
  match s.trace with
  | [] => { s with rsp := none, freeIdx := s.freeIdx + 1 }
  | _ :: rest => { s with rsp := none, trace := rest }

/-- The state with a trace placed for the instants to come (R65). -/
def withTrace (t : List StimVec) (s : State) : State := { s with trace := t }

/-- Place one stimulus vector for the very next instant, and put the host port into the state that the first row the
vector matches needs (log entry 12). -/
def placeStim (v : StimVec) (s : State) : State :=
  { s with
    trace := v :: s.trace
    hs := (((decode v).head?).bind requiredHs).getD s.hs }

end Sys2Proof.Machine
end

