-- ==== Sys2Proof/Machine/Buffer.lean ====
section
/-! DEFINITION. The display buffer pipeline (`44_buffer_pipeline.md`): WRPEND, COMMIT, COMMITSTEP. -/

namespace Sys2Proof.Machine

/-- WRPEND slot, v: stored verbatim, not rotated (R98). -/
def execWrpend (slot : BitVec 2) (v : Byte) (s : State) : Host.Outcome State Fault Refusal :=
  .next (whenIdle (fun s => emit 0x00 (writePend slot v s)) s)

/-- COMMIT with COMMIT_ATOMIC = false: no slot is copied and no response given yet (R99). -/
def beginCommit (s : State) : State := { s with commitIdx := 0, hs := .commit }

/-- COMMIT with COMMIT_ATOMIC = true: all four slots in one instant (R101). -/
def commitAllSlots (s : State) : State :=
  emit 0x00 (copySlot 3 (copySlot 2 (copySlot 1 (copySlot 0 s))))

/-- COMMIT (R99, R101). -/
def execCommit (s : State) : Host.Outcome State Fault Refusal :=
  .next (whenIdle (fun s => if s.cfg.commitAtomic then commitAllSlots s else beginCommit s) s)

/-- COMMITSTEP where a commit is in progress (R100). -/
def commitOneSlot (s : State) : State :=
  let t := copySlot s.commitIdx s
  if s.commitIdx = 3 then emit 0x00 { t with hs := .idle } else { t with commitIdx := s.commitIdx + 1 }

/-- COMMITSTEP (R100). -/
def execCommitstep (s : State) : Host.Outcome State Fault Refusal :=
  .next (if s.hs = .commit then commitOneSlot s else s)

end Sys2Proof.Machine
end

