-- ==== Sys2Proof/Machine/Classify.lean ====
section
/-! DEFINITION. The key press classifier (`43_classifier.md`): CLASSIFY. -/

namespace Sys2Proof.Machine

/-- CLASSIFY where the host port is idle: one read, one result, then the guard delay or an answer at once (R91). -/
def classifyAndGuard (ch : BitVec 1) (s : State) : State :=
  let e := classify s.cfg (readCnt s ch)
  startWait (guardTicks s.cfg e) (eventCode s.cfg e) s

/-- CLASSIFY ch (R91). -/
def execClassify (ch : BitVec 1) (s : State) : Host.Outcome State Fault Refusal :=
  .next (whenIdle (classifyAndGuard ch) s)

end Sys2Proof.Machine
end

