-- ==== Sys2Proof/Machine/Delay.lean ====
section
/-! DEFINITION. The delay primitive and the tick read (`42_delay.md`): DELAY, WAITCHECK, RDTICK. -/

namespace Sys2Proof.Machine

/-- DELAY n (R84). -/
def execDelay (n : Byte) (s : State) : Host.Outcome State Fault Refusal :=
  .next (whenIdle (startWait n 0x00) s)

/-- WAITCHECK where the host port waits: equality of counter and target ends the wait (R86). -/
def checkWait (s : State) : State :=
  if s.tickCounter = s.waitTarget then emit s.rspHold { s with hs := .idle } else s

/-- WAITCHECK (R86). -/
def execWaitcheck (s : State) : Host.Outcome State Fault Refusal :=
  .next (if s.hs = .wait then checkWait s else s)

/-- RDTICK (R87). -/
def execRdtick (s : State) : Host.Outcome State Fault Refusal :=
  .next (whenIdle (fun s => emit s.tickCounter s) s)

end Sys2Proof.Machine
end

