-- ==== Sys2Proof/Machine/Refresh.lean ====
section
/-! DEFINITION. The display refresh scheduler (`40_display_refresh.md`): REFRESH and SETDIM. -/

namespace Sys2Proof.Machine

/-- REFRESH where the dimming phase is defined (R70). -/
def serveDigit (s : State) : State :=
  let blank := blankDigits s
  let shown := if lit s.cfg s.frameCounter s.dimDivisor then driveDigit blank else blank
  advanceFrame shown

/-- REFRESH (R70). A divisor of 0, which no command can store, leaves `mod` undefined and faults (log entry 7). -/
def execRefresh (s : State) : Host.Outcome State Fault Refusal :=
  if s.dimDivisor = 0 then .fault .dimDivisorZero else .next (serveDigit s)

/-- SETDIM d (R71). -/
def execSetdim (d : Byte) (s : State) : Host.Outcome State Fault Refusal :=
  .next (whenIdle (fun s => emit 0x00 { s with dimDivisor := clampDivisor s.cfg d }) s)

end Sys2Proof.Machine
end

