-- ==== Sys2Proof/Machine/System.lean ====
section
/-! DEFINITION. The system operations (`45_system.md`): RESET, NOP and the reserved opcodes. -/

namespace Sys2Proof.Machine

/-- RESET (R105). No response is emitted. -/
def execReset (s : State) : Host.Outcome State Fault Refusal := .next (resetRegisters s)

/-- Answer 0x00 and do nothing else: NOP (R104), which the reserved opcodes are executed as (R106). -/
def answerOnly (s : State) : State := whenIdle (emit 0x00) s

/-- NOP (R104). -/
def execNop (s : State) : Host.Outcome State Fault Refusal := .next (answerOnly s)

/-- The reserved opcode 0x7, executed as a NOP (R59, R106; log entry 5). -/
def execReserved7 (s : State) : Host.Outcome State Fault Refusal := .next (answerOnly s)

/-- The reserved opcodes 0x8 to 0xF, executed as a NOP (R59, R106; log entry 5). -/
def execReserved8F (s : State) : Host.Outcome State Fault Refusal := .next (answerOnly s)

end Sys2Proof.Machine
end

