-- ==== Sys2Proof/Machine/Tick.lean ====
section
/-! DEFINITION. The tick/debounce scheduler (`41_debounce_tick.md`): TICK. -/

namespace Sys2Proof.Machine

/-- TICK(sw): both channels, then the tick counter (R77). -/
def sampleAndAdvance (sw : BitVec 2) (s : State) : State :=
  advanceTick (channelUpdate 1 (sampleOf sw 1) (channelUpdate 0 (sampleOf sw 0) s))

/-- TICK (R77). -/
def execTick (sw : BitVec 2) (s : State) : Host.Outcome State Fault Refusal := .next (sampleAndAdvance sw s)

end Sys2Proof.Machine
end

