-- ==== Sys2Proof/Machine/Dispatch.lean ====
section
/-! DEFINITION. One arm per operation of the opcode table. -/

namespace Sys2Proof.Machine

/-- The effect of one operation on the state. -/
def exec (i : Instr) (s : State) : Host.Outcome State Fault Refusal :=
  match i with
  | .reset => Sys2Proof.Machine.execReset s
  | .refresh => Sys2Proof.Machine.execRefresh s
  | .tick sw => Sys2Proof.Machine.execTick sw s
  | .waitcheck => Sys2Proof.Machine.execWaitcheck s
  | .commitstep => Sys2Proof.Machine.execCommitstep s
  | .nop => Sys2Proof.Machine.execNop s
  | .classify ch => Sys2Proof.Machine.execClassify ch s
  | .delay n => Sys2Proof.Machine.execDelay n s
  | .rdtick => Sys2Proof.Machine.execRdtick s
  | .wrpend slot v => Sys2Proof.Machine.execWrpend slot v s
  | .commit => Sys2Proof.Machine.execCommit s
  | .setdim d => Sys2Proof.Machine.execSetdim d s
  | .reserved7 => Sys2Proof.Machine.execReserved7 s
  | .reserved8F _ => Sys2Proof.Machine.execReserved8F s

end Sys2Proof.Machine
end

