-- ==== Sys2Proof/Machine/Instant.lean ====
section
/-! DEFINITION. One instant: the atomic sequential composition of the operations one stimulus vector selects (R13, R67). -/

namespace Sys2Proof.Machine

/-- Operations one after another, each on the result of the previous one (R114). -/
def runOps : List Instr → State → Host.Outcome State Fault Refusal
  | [], s => .next s
  | i :: is, s => andThen (exec i s) (runOps is)

/-- The top-level step (R67): take the stimulus vector, then perform what it selects. The host phase dispatches on the
host state at the START of the instant. -/
def instant (s : State) : Host.Outcome State Fault Refusal :=
  runOps (selected s.hs (nextStim s)) (beginInstant s)

end Sys2Proof.Machine
end

