-- ==== Sys2Proof/Machine/Step.lean ====
section
/-! DEFINITION. The step of the machine is one instant (R5, R67). -/

namespace Sys2Proof.Machine

/-- One instant. -/
def step (s : State) : Host.Outcome State Fault Refusal := instant s

/-- The state whose very next instant runs the operation the decoder reads from the table word `w`. -/
def State.withFetchWord (s : State) (_nbits w : Nat) : State := placeStim (BitVec.ofNat 22 w) s

end Sys2Proof.Machine
end

