-- ==== Sys2Proof/Machine/Trace.lean ====
section
/-! DEFINITION. The block's assembly: what the lines and pseudo-operations of a trace stand for (`30_encoding.md` R65, R66).
An ill-formed line or statement is not assembled. -/

namespace Sys2Proof.Machine

/-- The command an item presents (R65). -/
def itemCommand : TraceItem → Option Instr
  | .nop => some .nop
  | .classify ch => some (.classify (BitVec.ofNat 1 ch))
  | .delay n => some (.delay (BitVec.ofNat 8 n))
  | .rdtick => some .rdtick
  | .wrpend slot v => some (.wrpend (BitVec.ofNat 2 slot) (BitVec.ofNat 8 v))
  | .commit => some .commit
  | .setdim d => some (.setdim (BitVec.ofNat 8 d))
  | .reset => none
  | .refresh => none
  | .tick => none
  | .sw _ _ => none
  | .idle => none

/-- The samples of `SW=b1b0`, channel 1 first (R65). -/
def swBits (b1 b0 : Nat) : BitVec 2 := BitVec.ofNat 1 b1 ++ BitVec.ofNat 1 b0

/-- What one item sets (R65). -/
def setItem (f : Stim) (i : TraceItem) : Stim :=
  match i with
  | .reset => { f with rst := true }
  | .refresh => { f with refreshStb := true }
  | .tick => { f with tickStb := true }
  | .sw b1 b0 => { f with sw := swBits b1 b0 }
  | .nop => { f with cmdValid := true, cmd := 0x0000 }
  | .classify ch => { f with cmdValid := true, cmd := 0x1000 ||| (BitVec.ofNat 16 ch <<< 8) }
  | .delay n => { f with cmdValid := true, cmd := 0x2000 ||| BitVec.ofNat 16 n }
  | .rdtick => { f with cmdValid := true, cmd := 0x3000 }
  | .wrpend slot v => { f with cmdValid := true, cmd := 0x4000 ||| (BitVec.ofNat 16 slot <<< 8) ||| BitVec.ofNat 16 v }
  | .commit => { f with cmdValid := true, cmd := 0x5000 }
  | .setdim d => { f with cmdValid := true, cmd := 0x6000 ||| BitVec.ofNat 16 d }
  | .idle => f

/-- The fields of a line's stimulus vector (R65). -/
def lineFields (l : TraceLine) : Stim := l.foldl setItem Stim.quiet

/-- The stimulus vector of a well-formed line. -/
def assembleLine (l : TraceLine) : Option StimVec :=
  if TraceLine.wf l then some (lineFields l).toVector else none

/-- `REP n { lines }` (R66). -/
def repLines (n : Nat) (body : List TraceLine) : List TraceLine := (List.replicate n body).flatten

/-- The expansion of a pseudo-operation (R66). R66 calls LOAD's valid for COMMIT_ATOMIC = false and `hs = IDLE` at its first
line and says nothing of other cases: that the model expands LOAD into the same nine lines whatever the configuration and
the state is its choice (DESIGN CHOICE, log entry 16). -/
def expandStmt : TraceStmt → List TraceLine
  | .line l => [l]
  | .rep n body => repLines n body
  | .ticks n b1 b0 => repLines n [[.tick, .sw b1 b0]]
  | .refreshes n => repLines n [[.refresh]]
  | .idles n => repLines n [[.idle]]
  | .press ch n => repLines n [[.tick, if ch = 0 then .sw 1 0 else .sw 0 1]]
  | .release n => repLines n [[.tick, .sw 1 1]]
  | .load v0 v1 v2 v3 =>
    [[.wrpend 0 v0], [.wrpend 1 v1], [.wrpend 2 v2], [.wrpend 3 v3], [.commit]] ++ repLines 4 [[.idle]]

/-- Assemble every line, or none of them. -/
def assembleLines : List TraceLine → Option (List StimVec)
  | [] => some []
  | l :: ls =>
    match assembleLine l, assembleLines ls with
    | some v, some vs => some (v :: vs)
    | _, _ => none

/-- The stimulus vectors of a trace text: its well-formed statements expanded and assembled. -/
def assemble (p : List TraceStmt) : Option (List StimVec) :=
  if p.all TraceStmt.wf then assembleLines (p.map expandStmt).flatten else none

end Sys2Proof.Machine
end

