-- ==== Sys2Proof/Safety.lean ====
section
/-! DEFINITION. What claims speak of: the invariant of every reachable state (R32), runs and their observation (R146),
complete runs (R146), and the tally of commands and responses along a run (R47, R146). -/

namespace Sys2Proof.Safety

open Sys2Proof.Machine

/-- The invariant of R32 (items 1 to 5), with the facts the other rules derive from the operations: the configuration is
legal (by ranges that are in part the model's own, log entry 21); a channel whose window holds an open sample has counter 0 (R80); `hs` is never COMMIT when COMMIT_ATOMIC (R101). -/
structure Inv (s : State) : Prop where
  config : s.cfg.wf = true
  counterBound : ∀ ch, (readCnt s ch).toNat ≤ s.cfg.rebaseAt.toNat
  openMeansZero : ∀ ch, winClosed s.cfg (readHist s ch) = false → readCnt s ch = 0
  divisorBound : s.cfg.dimMin.toNat ≤ s.dimDivisor.toNat
  oneDigitAtMost : s.digEn = 0b0000 ∨ s.digEn = 0b0001 ∨ s.digEn = 0b0010 ∨ s.digEn = 0b0100 ∨ s.digEn = 0b1000
  cursorFollows : s.cursor.toNat = s.frameCounter.toNat % 4
  hostStateLegal : s.hs ≠ .unused
  atomicNeverSteps : s.cfg.commitAtomic = true → s.hs ≠ .commit

/-- `k` instants, stopping at the first fault or refusal. -/
def runSteps : Nat → State → Host.Outcome State Fault Refusal
  | 0, s => .next s
  | k + 1, s => andThen (step s) (runSteps k)

/-- A run from `s` never stops. -/
def SafeFrom (s : State) : Prop := ∀ k, ∃ t, runSteps k s = .next t

/-- The observation of a run of `k` instants: its output vectors, first one first (R146). -/
def observe : Nat → State → List OutVec
  | 0, _ => []
  | k + 1, s =>
    match step s with
    | .next t => outVector t :: observe k t
    | .fault _ => []
    | .refused _ => []

/-- A run that ends in `s` is complete: no command is in flight (R146). -/
def Complete (s : State) : Prop := s.hs = .idle

/-- A command is in flight: it has been accepted and not yet answered (R146). -/
def inFlight (s : State) : Bool := s.hs == .wait || s.hs == .commit

/-- How many commands a run accepted, answered and abandoned. -/
structure Tally where
  accepted : Nat
  answered : Nat
  abandoned : Nat
  deriving DecidableEq, Repr

/-- One instant's part of the tally, from the state before it and the state after it. -/
def instantTally (s t : State) : Tally where
  accepted := (acceptsCommand s (nextStim s)).toNat
  answered := t.rsp.isSome.toNat
  abandoned := ((Stim.ofVector (nextStim s)).rst && inFlight s).toNat

/-- The sum of two tallies. -/
def Tally.add (a b : Tally) : Tally :=
  ⟨a.accepted + b.accepted, a.answered + b.answered, a.abandoned + b.abandoned⟩

/-- The tally of a run of `k` instants and the state it ends in, when none of them stops. -/
def tallyRun : Nat → State → Option (Tally × State)
  | 0, s => some (⟨0, 0, 0⟩, s)
  | k + 1, s =>
    match step s with
    | .next t => (tallyRun k t).map fun r => ((instantTally s t).add r.1, r.2)
    | .fault _ => none
    | .refused _ => none

/-- How many of the next `n` REFRESH operations are lit, seen at the digit-enable lines; none if one stops. -/
def litRefreshes : Nat → State → Option Nat
  | 0, _ => some 0
  | n + 1, s =>
    match exec .refresh s with
    | .next t => (litRefreshes n t).map fun k => k + (if t.digEn = 0 then 0 else 1)
    | .fault _ => none
    | .refused _ => none

end Sys2Proof.Safety
end

