-- ==== Sys2Proof/Certificates/Slice0/Obligations.lean ====
section
/-! DEFINITION. The statements for the provers. Each docstring names the rule of spec/ it formalises. -/

open Sys2Proof Sys2Proof.Machine Sys2Proof.Safety

/-! ### Parameters, reset -/

/-- R6 and R7 (and, of R8, the values inside the model): the parameter values this hardware takes. The widths and counts
and CLOSED and OPEN are named constants that no definition of the machine reads (only `histW` and `rotFieldW` are read, by
the checks on configurations): State's types hold their numerals. -/
def Obligations.HardwareTakesTheParameterValues : Prop :=
  (Config.nCh = 2 ∧ Config.histW = 8 ∧ Config.cntW = 8 ∧ Config.tickW = 8 ∧ Config.closed = 0 ∧ Config.opened = 1 ∧
    Config.hardware.debWin = 4 ∧ Config.hardware.rebaseAt = 250 ∧ Config.hardware.rebaseTo = 100) ∧
  (Config.hardware.longThresh = 150 ∧ Config.hardware.guardLong = 30 ∧ Config.hardware.guardShort = 60 ∧
    Config.hardware.evNone = 0x00 ∧ Config.hardware.evShort = 0x01 ∧ Config.hardware.evLong = 0x02 ∧
    Config.hardware.chAdjust = 0 ∧ Config.hardware.chAdvance = 1) ∧
  (Config.nDig = 4 ∧ Config.frameW = 16 ∧ Config.dimW = 8 ∧ Config.slotW = 8 ∧ Config.hardware.litWin = 4 ∧
    Config.hardware.dimMin = 4 ∧ Config.hardware.dimReset = 4 ∧ Config.hardware.rotSlot = 2 ∧
    Config.hardware.rotAmt = 3 ∧ Config.hardware.commitAtomic = false ∧ Config.hardware.histReset = 0xFF ∧
    Config.hardware.dpBit = 7)

/-- The machine starts with the parameter values of the hardware, and they are a legal configuration. Both rest on the
model's own choices: the field `cfg` (log entry 1) and, in part, the ranges that make a configuration legal (log entry 21). -/
def Obligations.ResetHoldsTheHardwareConfiguration : Prop :=
  State.reset.cfg = Config.hardware ∧ Config.hardware.wf = true

/-- R35: the state after reset. -/
def Obligations.StateAfterResetIsTheTable : Prop :=
  State.reset.tickCounter = 0 ∧ readHist State.reset 0 = 0xFF ∧ readHist State.reset 1 = 0xFF ∧
  readCnt State.reset 0 = 0 ∧ readCnt State.reset 1 = 0 ∧ State.reset.cursor = 0 ∧ State.reset.frameCounter = 0 ∧
  State.reset.dimDivisor = 4 ∧ (∀ i, readComm State.reset i = 0x00) ∧ (∀ i, readPend State.reset i = 0x00) ∧
  State.reset.seg = 0x00 ∧ State.reset.digEn = 0b0000 ∧ State.reset.hs = .idle ∧ State.reset.waitTarget = 0 ∧
  State.reset.rspHold = 0x00 ∧ State.reset.commitIdx = 0

/-- R105: RESET puts every register into its reset value, from any state, and emits no response; at an instant with
`rst = 1` it is all that is performed, whatever else the vector asks for. -/
def Obligations.ResetWritesTheResetTable : Prop :=
  (∀ s : State, s.cfg = Config.hardware →
    exec .reset s = .next
      { s with
        tickCounter := 0, history := ⟨0xFF, 0xFF⟩, pressCounter := ⟨0, 0⟩, cursor := 0, frameCounter := 0
        dimDivisor := 4, committed := ⟨0x00, 0x00, 0x00, 0x00⟩, pending := ⟨0x00, 0x00, 0x00, 0x00⟩, seg := 0x00
        digEn := 0b0000, hs := .idle, waitTarget := 0, rspHold := 0x00, commitIdx := 0 }) ∧
  ∀ (s : State) (v : StimVec) (rest : List StimVec), s.trace = v :: rest → v.getLsbD 21 = true →
    step s = exec .reset { s with rsp := none, trace := rest }

/-- R141: a RESET abandons whatever command is in progress, without a response, and leaves no partial copy. -/
def Obligations.ResetAbandonsTheCommandInProgress : Prop :=
  ∀ (s : State) (v : StimVec) (rest : List StimVec),
    s.trace = v :: rest → v.getLsbD 21 = true →
    ∃ t, step s = .next t ∧ t.rsp = none ∧ t.hs = .idle ∧ t.trace = rest ∧ t.freeIdx = s.freeIdx ∧ t.cfg = s.cfg ∧
      (∀ i, readComm t i = 0x00) ∧ (∀ i, readPend t i = 0x00)

/-! ### Encodings -/

/-- R55: the places of the stimulus vector's fields; fields and vector determine each other. -/
def Obligations.StimulusVectorLayout : Prop :=
  (∀ v : StimVec,
    (Stim.ofVector v).rst = v.getLsbD 21 ∧ (Stim.ofVector v).refreshStb = v.getLsbD 20 ∧
    (Stim.ofVector v).tickStb = v.getLsbD 19 ∧ sampleOf (Stim.ofVector v).sw 1 = v.extractLsb' 18 1 ∧
    sampleOf (Stim.ofVector v).sw 0 = v.extractLsb' 17 1 ∧ (Stim.ofVector v).cmdValid = v.getLsbD 16 ∧
    (Stim.ofVector v).cmd = v.extractLsb' 0 16 ∧ (Stim.ofVector v).toVector = v) ∧
  ∀ f : Stim, Stim.ofVector f.toVector = f

/-- R56, R57 and R109: the dispatch of a command word on `cmd[15:12]`, with each operand at its place; total. -/
def Obligations.CommandWordDispatch : Prop :=
  (∀ w : CmdWord, packCmd (w.extractLsb' 12 4) (w.extractLsb' 8 4) (w.extractLsb' 0 8) = w) ∧
  ∀ (op a : BitVec 4) (imm : Byte),
    decodeCmd (packCmd op a imm) =
      if op = 0x0 then .nop
      else if op = 0x1 then .classify (a.extractLsb' 0 1)
      else if op = 0x2 then .delay imm
      else if op = 0x3 then .rdtick
      else if op = 0x4 then .wrpend (a.extractLsb' 0 2) imm
      else if op = 0x5 then .commit
      else if op = 0x6 then .setdim imm
      else if op = 0x7 then .reserved7
      else .reserved8F (op.extractLsb' 0 3)

/-- R60: what the hardware ignores: the unused operand fields of each command, `sw` without a tick strobe, `cmd` without
`cmd_valid` and of a command that is not accepted. -/
def Obligations.IgnoredFieldsAreIgnored : Prop :=
  (∀ (op a b : BitVec 4) (m n : Byte), op = 0x0 ∨ op = 0x3 ∨ op = 0x5 ∨ 0x7 ≤ op →
    decodeCmd (packCmd op a m) = decodeCmd (packCmd op b n)) ∧
  (∀ (a b : BitVec 4) (m n : Byte), a.getLsbD 0 = b.getLsbD 0 →
    decodeCmd (packCmd 0x1 a m) = decodeCmd (packCmd 0x1 b n)) ∧
  (∀ (a b : BitVec 4) (m : Byte), decodeCmd (packCmd 0x2 a m) = decodeCmd (packCmd 0x2 b m) ∧
    decodeCmd (packCmd 0x6 a m) = decodeCmd (packCmd 0x6 b m)) ∧
  (∀ (a b : BitVec 4) (m : Byte), a.extractLsb' 0 2 = b.extractLsb' 0 2 →
    decodeCmd (packCmd 0x4 a m) = decodeCmd (packCmd 0x4 b m)) ∧
  (∀ v w : StimVec, v &&& 0x39FFFF = w &&& 0x39FFFF → v.getLsbD 19 = false → decode v = decode w) ∧
  (∀ v w : StimVec, v &&& 0x3F0000 = w &&& 0x3F0000 → v.getLsbD 16 = false → decode v = decode w) ∧
  (∀ (hs0 : HostState) (v w : StimVec), hs0 ≠ .idle → v &&& 0x3E0000 = w &&& 0x3E0000 → selected hs0 v = selected hs0 w)

/-- Decode and encode agree, for every operation and every operand value: an operation with an encoding of its own is
what its vector selects, alone, at an instant that begins in IDLE; COMMITSTEP and WAITCHECK are what theirs select in
COMMIT and WAIT; and no encoded operation is missing among the rows its vector matches. -/
def Obligations.EncodedOperationsDecodeBack : Prop :=
  (∀ i : Instr, i.wf = true → selected .idle (encode i) = [i]) ∧
  selected .commit (encode .commitstep) = [.commitstep] ∧
  selected .wait (encode .waitcheck) = [.tick 0b11, .waitcheck] ∧
  ∀ i : Instr, i ∈ decode (encode i)

/-- The decoder and the rows of `opcode_table.json` say the same: a vector decodes to operations whose rows it matches,
and every row it matches is decoded. -/
def Obligations.TableRowsMatchTheDecoder : Prop :=
  (∀ (v : StimVec) (i : Instr), i ∈ decode v → i.row ∈ opTable ∧ v &&& i.row.mask = i.row.pattern) ∧
  ∀ (v : StimVec) (r : OpRow), r ∈ opTable → v &&& r.mask = r.pattern → ∃ i ∈ decode v, i.row = r

/-- Words written out in R65 and in the worked examples select what they stand for. -/
def Obligations.WrittenOutWordsDecode : Prop :=
  selected .idle 0x260000 = [.reset] ∧ selected .idle 0x160000 = [.refresh] ∧
  selected .idle 0x0C0000 = [.tick 0b10] ∧ selected .idle 0x071000 = [.classify 0] ∧
  selected .idle 0x07200A = [.delay 10] ∧ selected .idle 0x073000 = [.rdtick] ∧
  selected .idle 0x19425B = [.refresh, .tick 0b00, .wrpend 2 0x5B] ∧ selected .idle 0x075000 = [.commit] ∧
  selected .idle 0x0760BE = [.setdim 190] ∧ selected .idle 0x070000 = [.nop] ∧
  selected .idle 0x077000 = [.reserved7] ∧ selected .idle 0x07F123 = [.reserved8F 7] ∧
  selected .idle 0x060000 = [] ∧ selected .commit 0x060000 = [.commitstep] ∧
  selected .wait 0x0E0000 = [.tick 0b11, .waitcheck]

/-- R65: a line that is one well-formed command item assembles to the vector that asks for that command. -/
def Obligations.CommandLinesAssemble : Prop :=
  ∀ (item : TraceItem) (i : Instr), item.wf = true → itemCommand item = some i →
    assembleLine [item] = some (encode i) ∧ selected .idle (encode i) = [i]

/-! ### The step -/

/-- When the line at the head of the trace selects one operation, the step is that operation's effect on the state with
the line taken and no response given yet. -/
def Obligations.StepRunsTheSelectedOperation : Prop :=
  ∀ (s : State) (v : StimVec) (rest : List StimVec) (i : Instr),
    s.trace = v :: rest → selected s.hs v = [i] → step s = exec i { s with rsp := none, trace := rest }

/-- R67: the top-level step, phase by phase, with the host phase dispatched on `hs` at the start of the instant. -/
def Obligations.StepFollowsThePhaseOrder : Prop :=
  ∀ (s : State) (v : StimVec) (rest : List StimVec), s.trace = v :: rest →
    step s =
      if v.getLsbD 21 then exec .reset { s with rsp := none, trace := rest }
      else
        andThen
          (if v.getLsbD 20 then exec .refresh { s with rsp := none, trace := rest }
            else .next { s with rsp := none, trace := rest })
          fun s1 => andThen
            (if v.getLsbD 19 then
              andThen (exec (.tick (v.extractLsb' 17 2)) s1)
                fun s2 => if s.hs = .wait then exec .waitcheck s2 else .next s2
              else .next s1)
            fun s3 =>
              if s.hs = .idle ∧ v.getLsbD 16 = true then exec (decodeCmd (v.extractLsb' 0 16)) s3
              else if s.hs = .commit then exec .commitstep s3
              else .next s3

/-- R67: an instant performs at most one host-port action, and only the one the host state at its start allows. -/
def Obligations.AtMostOneHostPortAction : Prop :=
  ∀ (hs0 : HostState) (v : StimVec),
    (selected hs0 v).countP Instr.isHostPort ≤ 1 ∧
    ∀ i ∈ selected hs0 v, (i.isCommand = true → hs0 = .idle) ∧ (i = .commitstep → hs0 = .commit) ∧
      (i = .waitcheck → hs0 = .wait) ∧ (i = .reset → selected hs0 v = [.reset])

/-- R63: the output vector's fields. -/
def Obligations.OutputVectorLayout : Prop :=
  ∀ s : State,
    (outVector s).getLsbD 21 = s.rsp.isSome ∧
    (outVector s).extractLsb' 13 8 = (match s.rsp with | some v => v | none => 0x00) ∧
    (outVector s).getLsbD 12 = decide (s.hs = .idle) ∧
    (outVector s).extractLsb' 4 8 = s.seg ∧ (outVector s).extractLsb' 0 4 = s.digEn

/-- R61: a response is emitted at an instant exactly when a command completes there: an accepted one that leaves the
host port idle, a wait that ends, a commit whose last slot is copied; never at a reset. -/
def Obligations.ResponsesMarkCompletion : Prop :=
  ∀ s t : State, step s = .next t →
    (t.rsp.isSome = true ↔
      (nextStim s).getLsbD 21 = false ∧ t.hs = .idle ∧
        (s.hs = .idle ∧ (nextStim s).getLsbD 16 = true ∨ s.hs = .wait ∨ s.hs = .commit))

/-- R108: the transition table of `hs`. The table leaves out the value 3 (`.unused`). That only RESET leaves it is the
model's choice (DESIGN CHOICE, log entry 6), after what `93_implementation_defined.md` U10 says of the hardware. -/
def Obligations.HostStateTransitionTable : Prop :=
  ∀ s t : State, step s = .next t →
    t.hs =
      if (nextStim s).getLsbD 21 then .idle
      else match s.hs with
        | .idle =>
          if (nextStim s).getLsbD 16 then
            match decodeCmd ((nextStim s).extractLsb' 0 16) with
            | .delay n => if n = 0 then .idle else .wait
            | .classify ch => if guardTicks s.cfg (classify s.cfg (readCnt t ch)) = 0 then .idle else .wait
            | .commit => if s.cfg.commitAtomic then .idle else .commit
            | _ => .idle
          else .idle
        | .wait => if (nextStim s).getLsbD 19 = true ∧ s.tickCounter + 1 = s.waitTarget then .idle else .wait
        | .commit => if s.commitIdx = 3 then .idle else .commit
        | .unused => .unused

/-- Every step takes one line, keeps the configuration, and uses a free vector only when no line is placed. -/
def Obligations.StepTakesOneLine : Prop :=
  ∀ s t : State, step s = .next t →
    t.cfg = s.cfg ∧ t.trace = s.trace.tail ∧ t.freeIdx = s.freeIdx + (if s.trace = [] then 1 else 0)

/-- R110 with `93_implementation_defined.md` U10: every operation is total on every state and operand, but for REFRESH
at the divisor 0, whose `mod` is undefined: there, and only there, it faults. -/
def Obligations.EveryOperationCompletes : Prop :=
  ∀ (i : Instr) (s : State),
    (i ≠ .refresh ∨ s.dimDivisor ≠ 0 → ∃ t, exec i s = .next t) ∧
    (i = .refresh → s.dimDivisor = 0 → exec i s = .fault .dimDivisorZero)

/-! ### Refresh -/

/-- R70: REFRESH. -/
def Obligations.RefreshServesOneDigit : Prop :=
  ∀ s : State, s.cfg = Config.hardware → s.dimDivisor ≠ 0 →
    exec .refresh s = .next
      { s with
        seg := if s.frameCounter.toNat % s.dimDivisor.toNat < 4 then readComm s s.cursor else s.seg
        digEn := if s.frameCounter.toNat % s.dimDivisor.toNat < 4 then 1#4 <<< s.cursor.toNat else 0b0000
        cursor := BitVec.ofNat 2 ((s.cursor.toNat + 1) % 4)
        frameCounter := BitVec.ofNat 16 ((s.frameCounter.toNat + 1) % 2 ^ 16) }

/-- R75, R118: REFRESH writes `cursor`, `frameCounter`, `seg`, `digEn` and nothing else, under every configuration. -/
def Obligations.RefreshLeavesTheRestAlone : Prop :=
  ∀ s t : State, exec .refresh s = .next t →
    t.tickCounter = s.tickCounter ∧ (∀ ch, readHist t ch = readHist s ch) ∧ (∀ ch, readCnt t ch = readCnt s ch) ∧
    t.dimDivisor = s.dimDivisor ∧ (∀ i, readComm t i = readComm s i) ∧ (∀ i, readPend t i = readPend s i) ∧
    t.hs = s.hs ∧ t.waitTarget = s.waitTarget ∧ t.rspHold = s.rspHold ∧ t.commitIdx = s.commitIdx ∧
    t.rsp = s.rsp ∧ t.cfg = s.cfg ∧ t.trace = s.trace ∧ t.freeIdx = s.freeIdx

/-- R71: SETDIM stores `max(d, 4)` and answers 0x00. -/
def Obligations.SetdimClampsTheDivisor : Prop :=
  ∀ (s : State) (d : Byte), s.cfg = Config.hardware → s.hs = .idle →
    exec (.setdim d) s = .next { s with dimDivisor := BitVec.ofNat 8 (max d.toNat 4), rsp := some 0x00 }

/-- R72: in every run of D consecutive refreshes that does not cross the frame counter's wrap, exactly 4 are lit. -/
def Obligations.DutyCycleIsFourInD : Prop :=
  ∀ s : State, s.cfg = Config.hardware → 4 ≤ s.dimDivisor.toNat →
    s.frameCounter.toNat + s.dimDivisor.toNat ≤ 2 ^ 16 →
    litRefreshes s.dimDivisor.toNat s = some 4

/-- R70, R73: successive refreshes serve the digits in cyclic order, one digit each, lit or not. -/
def Obligations.RefreshesServeDigitsInTurn : Prop :=
  ∀ (n : Nat) (s : State), s.cfg = Config.hardware → s.dimDivisor ≠ 0 →
    ∃ t, runOps (List.replicate (n + 1) .refresh) s = .next t ∧
      t.cursor.toNat = (s.cursor.toNat + n + 1) % 4 ∧
      t.frameCounter.toNat = (s.frameCounter.toNat + n + 1) % 2 ^ 16 ∧
      t.digEn =
        (if (s.frameCounter.toNat + n) % 2 ^ 16 % s.dimDivisor.toNat < 4
          then 1#4 <<< ((s.cursor.toNat + n) % 4) else 0b0000) ∧
      ((s.frameCounter.toNat + n) % 2 ^ 16 % s.dimDivisor.toNat < 4 →
        t.seg = readComm s (BitVec.ofNat 2 (s.cursor.toNat + n)))

/-! ### Tick -/

/-- R77, R78, R79: TICK. -/
def Obligations.TickSamplesBothChannels : Prop :=
  ∀ (s : State) (sw : BitVec 2), s.cfg = Config.hardware →
    ∃ t, exec (.tick sw) s = .next t ∧
      t = { s with
            tickCounter := BitVec.ofNat 8 ((s.tickCounter.toNat + 1) % 2 ^ 8)
            history := t.history
            pressCounter := t.pressCounter } ∧
      ∀ ch : BitVec 1,
        (readHist t ch).toNat = ((readHist s ch).toNat * 2 + (sw.getLsbD ch.toNat).toNat) % 2 ^ 8 ∧
        (readCnt t ch).toNat =
          (if (readHist t ch).toNat % 16 = 0 then
            (if (readCnt s ch).toNat + 1 > 250 then 100 else (readCnt s ch).toNat + 1) else 0)

/-- R82, R118: TICK writes `tickCounter`, `history` and `pressCounter` and nothing else, whatever `hs` is. -/
def Obligations.TickLeavesTheRestAlone : Prop :=
  ∀ (s t : State) (sw : BitVec 2), exec (.tick sw) s = .next t →
    t.cursor = s.cursor ∧ t.frameCounter = s.frameCounter ∧ t.seg = s.seg ∧ t.digEn = s.digEn ∧
    t.dimDivisor = s.dimDivisor ∧ (∀ i, readComm t i = readComm s i) ∧ (∀ i, readPend t i = readPend s i) ∧
    t.hs = s.hs ∧ t.waitTarget = s.waitTarget ∧ t.rspHold = s.rspHold ∧ t.commitIdx = s.commitIdx ∧
    t.rsp = s.rsp ∧ t.cfg = s.cfg ∧ t.trace = s.trace ∧ t.freeIdx = s.freeIdx

/-- R80: the closed-run law. `p` is the position of the most recent open sample in the window; every tick of the run
samples the channel closed. -/
def Obligations.ClosedRunLaw : Prop :=
  ∀ (s : State) (ch : BitVec 1) (p : Nat) (run : List (BitVec 2)),
    s.cfg = Config.hardware → readCnt s ch = 0 → p < 4 → (readHist s ch).getLsbD p = true →
    (∀ q, q < p → (readHist s ch).getLsbD q = false) → (∀ sw ∈ run, sw.getLsbD ch.toNat = false) →
    ∃ t, runOps (run.map Instr.tick) s = .next t ∧
      (readCnt t ch).toNat =
        (if run.length < 4 - p then 0
          else if run.length - (4 - p) + 1 ≤ 250 then run.length - (4 - p) + 1
          else 100 + (run.length - (4 - p) + 1 - 251) % 151)

/-- R81: the first open sample clears the counter, and it stays 0 through the next three ticks whatever they sample. -/
def Obligations.ReleaseClearsTheCounter : Prop :=
  ∀ (s : State) (ch : BitVec 1) (sw : BitVec 2) (later : List (BitVec 2)),
    s.cfg = Config.hardware → sw.getLsbD ch.toNat = true → later.length ≤ 3 →
    ∃ t, runOps ((sw :: later).map Instr.tick) s = .next t ∧ readCnt t ch = 0

/-- R94, R134: from the first rebase on, a button held closed is classified SHORT for 51 ticks and LONG for 100 ticks of
every 151, and the counter never returns to 0. The window is closed and the counter has just been rebased to 100. -/
def Obligations.HeldButtonAlternates : Prop :=
  ∀ (s : State) (ch : BitVec 1) (run : List (BitVec 2)),
    s.cfg = Config.hardware → readCnt s ch = 100 → (readHist s ch).toNat % 8 = 0 →
    (∀ sw ∈ run, sw.getLsbD ch.toNat = false) →
    ∃ t, runOps (run.map Instr.tick) s = .next t ∧ readCnt t ch ≠ 0 ∧
      classify t.cfg (readCnt t ch) = (if run.length % 151 < 51 then .short else .long)

/-- R77: the two channels are independent. -/
def Obligations.ChannelsAreIndependent : Prop :=
  ∀ (s u : State) (ch : BitVec 1) (v w : BitVec 2),
    s.cfg = u.cfg → readHist s ch = readHist u ch → readCnt s ch = readCnt u ch →
    v.getLsbD ch.toNat = w.getLsbD ch.toNat →
    ∃ t x, exec (.tick v) s = .next t ∧ exec (.tick w) u = .next x ∧
      readHist t ch = readHist x ch ∧ readCnt t ch = readCnt x ch

/-- R17: bits 7:4 of `history` influence no counter, now or at any later tick. -/
def Obligations.HistoryHighBitsAreUnobservable : Prop :=
  ∀ (run : List (BitVec 2)) (s u : State) (ch : BitVec 1),
    s.cfg = Config.hardware → u.cfg = Config.hardware →
    (readHist s ch).extractLsb' 0 4 = (readHist u ch).extractLsb' 0 4 → readCnt s ch = readCnt u ch →
    ∃ t x, runOps (run.map Instr.tick) s = .next t ∧ runOps (run.map Instr.tick) u = .next x ∧
      readCnt t ch = readCnt x ch

/-! ### Delay, wait, tick read -/

/-- R84: DELAY answers at once for n = 0 and otherwise begins a wait of n ticks. -/
def Obligations.DelayAnswersOrWaits : Prop :=
  ∀ (s : State) (n : Byte), s.hs = .idle →
    exec (.delay n) s = .next
      (if n.toNat = 0 then { s with rsp := some 0x00 }
        else { s with
               waitTarget := BitVec.ofNat 8 ((s.tickCounter.toNat + n.toNat) % 2 ^ 8)
               rspHold := 0x00
               hs := .wait })

/-- R86: WAITCHECK ends the wait exactly when the counter equals the target. -/
def Obligations.WaitcheckEndsAtTheTarget : Prop :=
  ∀ s : State, s.hs = .wait →
    exec .waitcheck s = .next
      (if s.tickCounter = s.waitTarget then { s with hs := .idle, rsp := some s.rspHold } else s)

/-- R87: RDTICK answers the tick counter and changes nothing. -/
def Obligations.RdtickAnswersTheCounter : Prop :=
  ∀ s : State, s.hs = .idle → exec .rdtick s = .next { s with rsp := some s.tickCounter }

/-- R88, R139: a wait whose target is `n` ticks ahead is still on after fewer than `n` ticks, however many instants
pass and whatever commands they present: no register of the host group has changed and nothing is answered. It ends, with
the held response, at the `n`-th tick. -/
def Obligations.WaitLastsExactlyNTicks : Prop :=
  ∀ (s : State) (n : Nat) (lines rest : List StimVec),
    1 ≤ n → n ≤ 256 → s.hs = .wait → s.dimDivisor ≠ 0 → s.waitTarget = s.tickCounter + BitVec.ofNat 8 n →
    s.trace = lines ++ rest → (∀ v ∈ lines, v.getLsbD 21 = false) →
    (lines.countP (fun v => v.getLsbD 19) < n →
      ∃ t, runSteps lines.length s = .next t ∧ t.hs = .wait ∧ t.trace = rest ∧
        t.tickCounter = s.tickCounter + BitVec.ofNat 8 (lines.countP fun v => v.getLsbD 19) ∧
        t.waitTarget = s.waitTarget ∧ t.rspHold = s.rspHold ∧ t.pending = s.pending ∧ t.committed = s.committed ∧
        t.dimDivisor = s.dimDivisor ∧ t.commitIdx = s.commitIdx ∧ (lines ≠ [] → t.rsp = none)) ∧
    ∀ (before : List StimVec) (v : StimVec), lines = before ++ [v] → v.getLsbD 19 = true →
      before.countP (fun v => v.getLsbD 19) + 1 = n →
      ∃ t, runSteps lines.length s = .next t ∧ t.hs = .idle ∧ t.rsp = some s.rspHold ∧ t.trace = rest ∧
        t.tickCounter = s.waitTarget

/-! ### Classifier -/

/-- R90: the classification function, and R61's codes of its results. -/
def Obligations.ClassificationThresholds : Prop :=
  ∀ c : Byte,
    (c.toNat > 150 → classify Config.hardware c = .long) ∧
    (1 ≤ c.toNat ∧ c.toNat ≤ 150 → classify Config.hardware c = .short) ∧
    (c.toNat = 0 → classify Config.hardware c = .none) ∧
    eventCode Config.hardware .none = 0x00 ∧ eventCode Config.hardware .short = 0x01 ∧
    eventCode Config.hardware .long = 0x02

/-- R91: CLASSIFY reads the channel's counter once and answers NONE at once, or begins the guard delay of its result
(or answers at once where the configured guard delay is 0); the counters stay as they are. -/
def Obligations.ClassifyAnswersOrGuards : Prop :=
  ∀ (s : State) (ch : BitVec 1), s.hs = .idle →
    exec (.classify ch) s = .next
      (match classify s.cfg (readCnt s ch) with
        | .long =>
          if s.cfg.guardLong = 0 then { s with rsp := some s.cfg.evLong }
          else { s with waitTarget := s.tickCounter + s.cfg.guardLong, rspHold := s.cfg.evLong, hs := .wait }
        | .short =>
          if s.cfg.guardShort = 0 then { s with rsp := some s.cfg.evShort }
          else { s with waitTarget := s.tickCounter + s.cfg.guardShort, rspHold := s.cfg.evShort, hs := .wait }
        | .none => { s with rsp := some s.cfg.evNone })

/-! ### Display buffers -/

/-- R96: the rotation, as slices of the byte, and the independence of its direction. -/
def Obligations.RotationFormula : Prop :=
  (∀ (c : Config) (v : Byte), c.rotAmt = 3 →
    rot c v = v.extractLsb' 6 2 ++ v.extractLsb' 0 3 ++ v.extractLsb' 3 3) ∧
  ∀ ring : BitVec 6, ring.rotateLeft 3 = ring.rotateRight 3

/-- R97: the rotation is its own inverse, keeps the number of 1 bits, fixes exactly the bytes whose two halves of the
ring are equal, 32 of them, and commutes with changes of bits 7:6. -/
def Obligations.RotationProperties : Prop :=
  (∀ v : Byte, rot Config.hardware (rot Config.hardware v) = v) ∧
  (∀ v : Byte, (List.range 8).countP (fun k => (rot Config.hardware v).getLsbD k)
    = (List.range 8).countP (fun k => v.getLsbD k)) ∧
  (∀ v : Byte, rot Config.hardware v = v ↔ v.extractLsb' 3 3 = v.extractLsb' 0 3) ∧
  (List.range 256).countP (fun n => rot Config.hardware (BitVec.ofNat 8 n) == BitVec.ofNat 8 n) = 32 ∧
  (∀ v m : Byte, m.extractLsb' 0 6 = 0 → rot Config.hardware (v ^^^ m) = rot Config.hardware v ^^^ m)

/-- R98: WRPEND stores the byte verbatim in one pending slot, slot 2 too, and answers 0x00. -/
def Obligations.WrpendStoresOneSlot : Prop :=
  ∀ (s : State) (slot : BitVec 2) (v : Byte), s.hs = .idle →
    ∃ t, exec (.wrpend slot v) s = .next t ∧ t = { s with pending := t.pending, rsp := some 0x00 } ∧
      readPend t slot = v ∧ ∀ j, j ≠ slot → readPend t j = readPend s j

/-- R99: COMMIT with COMMIT_ATOMIC = false. -/
def Obligations.CommitBeginsTheCopy : Prop :=
  ∀ s : State, s.hs = .idle → s.cfg.commitAtomic = false →
    exec .commit s = .next { s with commitIdx := 0, hs := .commit }

/-- R100: COMMITSTEP copies one slot, slot 2 rotated, and answers 0x00 after the fourth. -/
def Obligations.CommitstepCopiesOneSlot : Prop :=
  ∀ s : State, s.hs = .commit → s.cfg.rotSlot = 2 → s.cfg.rotAmt = 3 →
    ∃ t, exec .commitstep s = .next t ∧
      readComm t s.commitIdx =
        (if s.commitIdx = 2 then
          (readPend s 2).extractLsb' 6 2 ++ (readPend s 2).extractLsb' 0 3 ++ (readPend s 2).extractLsb' 3 3
          else readPend s s.commitIdx) ∧
      (∀ j, j ≠ s.commitIdx → readComm t j = readComm s j) ∧
      t = (if s.commitIdx = 3 then { s with committed := t.committed, hs := .idle, rsp := some 0x00 }
        else { s with committed := t.committed, commitIdx := s.commitIdx + 1 })

/-- R101: COMMIT with COMMIT_ATOMIC = true copies all four slots in one instant and answers 0x00. -/
def Obligations.AtomicCommitCopiesAllSlots : Prop :=
  ∀ s : State, s.hs = .idle → s.cfg.commitAtomic = true → s.cfg.rotSlot = 2 →
    exec .commit s = .next
      { s with
        committed := ⟨readPend s 0, readPend s 1, rot s.cfg (readPend s 2), readPend s 3⟩
        rsp := some 0x00 }

/-- R102: after an accepted COMMIT and `j` more instants, slots below `j` are new and the others old; after four the
commit is complete and answered. Whatever the five instants bring beside (but no reset), `pending` stays as it was. That
the slots change in ascending order, one per instant, is the choice of R100 and the model, not the source's (decision D16,
N17; DESIGN CHOICE, log entry 14). -/
def Obligations.CommitPostcondition : Prop :=
  ∀ (s : State) (v : StimVec) (lines rest : List StimVec),
    s.hs = .idle → s.cfg.commitAtomic = false → s.cfg.rotSlot = 2 → s.dimDivisor ≠ 0 →
    s.trace = v :: lines ++ rest → v.getLsbD 21 = false → v.getLsbD 16 = true → v.extractLsb' 12 4 = 5#4 →
    lines.length ≤ 4 → (∀ w ∈ lines, w.getLsbD 21 = false) →
    ∃ t, runSteps (1 + lines.length) s = .next t ∧ t.pending = s.pending ∧
      (∀ i : BitVec 2, readComm t i =
        if i.toNat < lines.length then (if i = 2 then rot s.cfg (readPend s 2) else readPend s i)
        else readComm s i) ∧
      t.hs = (if lines.length < 4 then .commit else .idle) ∧
      t.rsp = (if lines.length < 4 then none else some 0x00)

/-! ### System -/

/-- R104: NOP answers 0x00 and changes nothing. -/
def Obligations.NopOnlyAnswers : Prop :=
  ∀ s : State, s.hs = .idle → exec .nop s = .next { s with rsp := some 0x00 }

/-- The reserved opcodes answer 0x00 and change nothing. That the model executes them, with the effect R106 says they have
on the hardware, is the model's choice (DESIGN CHOICE, log entry 5): R59, R106 and U9 advise a model to refuse them. -/
def Obligations.ReservedOpcodesOnlyAnswer : Prop :=
  ∀ (s : State) (op : BitVec 3), s.hs = .idle →
    exec .reserved7 s = .next { s with rsp := some 0x00 } ∧
    exec (.reserved8F op) s = .next { s with rsp := some 0x00 }

/-- R107: a command presented while busy has no effect whatever: alone it changes nothing, and an instant that presents
one is the instant that presents none. -/
def Obligations.BusyCommandsAreIgnored : Prop :=
  (∀ (i : Instr) (s : State), i.isCommand = true → s.hs ≠ .idle → exec i s = .next s) ∧
  ∀ (s : State) (v : StimVec) (rest : List StimVec), s.hs ≠ .idle → s.trace = v :: rest →
    step s = step { s with trace := (v &&& 0x3E0000) :: rest }

/-! ### Agents, frames, order -/

/-- R31, R118: every register changes only by an operation of its writers. -/
def Obligations.SingleWriterPerField : Prop :=
  ∀ (i : Instr) (s t : State), exec i s = .next t → i ≠ .reset →
    ((∀ sw, i ≠ .tick sw) →
      t.tickCounter = s.tickCounter ∧ t.history = s.history ∧ t.pressCounter = s.pressCounter) ∧
    (i ≠ .refresh →
      t.cursor = s.cursor ∧ t.frameCounter = s.frameCounter ∧ t.seg = s.seg ∧ t.digEn = s.digEn) ∧
    ((∀ d, i ≠ .setdim d) → t.dimDivisor = s.dimDivisor) ∧
    (i ≠ .commitstep → (i ≠ .commit ∨ s.cfg.commitAtomic = false) → t.committed = s.committed) ∧
    ((∀ slot v, i ≠ .wrpend slot v) → t.pending = s.pending) ∧
    ((∀ n, i ≠ .delay n) → (∀ ch, i ≠ .classify ch) → t.waitTarget = s.waitTarget ∧ t.rspHold = s.rspHold) ∧
    (i ≠ .commit → i ≠ .commitstep → t.commitIdx = s.commitIdx) ∧
    (i ≠ .commit → i ≠ .commitstep → i ≠ .waitcheck → (∀ n, i ≠ .delay n) → (∀ ch, i ≠ .classify ch) →
      t.hs = s.hs)

/-- The frame of every host-port operation, in every state and configuration: what each leaves unchanged. -/
def Obligations.HostOperationFrames : Prop :=
  ∀ (i : Instr) (s t : State), exec i s = .next t →
    match i with
    | .nop => t = { s with rsp := t.rsp }
    | .rdtick => t = { s with rsp := t.rsp }
    | .reserved7 => t = { s with rsp := t.rsp }
    | .reserved8F _ => t = { s with rsp := t.rsp }
    | .classify _ => t = { s with hs := t.hs, waitTarget := t.waitTarget, rspHold := t.rspHold, rsp := t.rsp }
    | .delay _ => t = { s with hs := t.hs, waitTarget := t.waitTarget, rspHold := t.rspHold, rsp := t.rsp }
    | .setdim _ => t = { s with dimDivisor := t.dimDivisor, rsp := t.rsp }
    | .waitcheck => t = { s with hs := t.hs, rsp := t.rsp }
    | .wrpend slot _ =>
      t = { s with pending := t.pending, rsp := t.rsp } ∧ ∀ j, j ≠ slot → readPend t j = readPend s j
    | .commit =>
      t = { s with hs := t.hs, commitIdx := t.commitIdx, committed := t.committed, rsp := t.rsp } ∧
      (s.cfg.commitAtomic = false → t.committed = s.committed ∧ t.rsp = s.rsp) ∧
      (s.cfg.commitAtomic = true → t.hs = s.hs ∧ t.commitIdx = s.commitIdx)
    | .commitstep =>
      t = { s with hs := t.hs, commitIdx := t.commitIdx, committed := t.committed, rsp := t.rsp } ∧
      ∀ j, j ≠ s.commitIdx → readComm t j = readComm s j
    | .reset => t.cfg = s.cfg ∧ t.rsp = s.rsp ∧ t.trace = s.trace ∧ t.freeIdx = s.freeIdx
    | .refresh => t = { s with cursor := t.cursor, frameCounter := t.frameCounter, seg := t.seg, digEn := t.digEn }
    | .tick _ => t = { s with tickCounter := t.tickCounter, history := t.history, pressCounter := t.pressCounter }

/-- R114: REFRESH and TICK touch disjoint registers, so their mutual order is unobservable. -/
def Obligations.RefreshAndTickCommute : Prop :=
  ∀ (s : State) (sw : BitVec 2),
    andThen (exec .refresh s) (exec (.tick sw)) = andThen (exec (.tick sw) s) (exec .refresh)

/-- R49, R138: a REFRESH at an instant shows the buffer and uses the divisor from before that instant's host action. -/
def Obligations.RefreshSeesTheOldValues : Prop :=
  ∀ (s t : State) (v : StimVec) (rest : List StimVec),
    s.trace = v :: rest → v.getLsbD 21 = false → v.getLsbD 20 = true → step s = .next t →
    ∃ u, exec .refresh s = .next u ∧
      t.seg = u.seg ∧ t.digEn = u.digEn ∧ t.cursor = u.cursor ∧ t.frameCounter = u.frameCounter

/-- R114: a command accepted at an instant with a TICK sees the counters after that TICK. -/
def Obligations.CommandsSeeTheTickOfTheirInstant : Prop :=
  ∀ (s : State) (v : StimVec) (rest : List StimVec),
    s.trace = v :: rest → s.hs = .idle → s.dimDivisor ≠ 0 → v.getLsbD 21 = false → v.getLsbD 19 = true →
    v.getLsbD 16 = true →
    ∃ u t, exec (.tick (v.extractLsb' 17 2)) s = .next u ∧ step s = .next t ∧
      t.tickCounter = u.tickCounter ∧ t.history = u.history ∧ t.pressCounter = u.pressCounter ∧
      (v.extractLsb' 12 4 = 3#4 → t.rsp = some u.tickCounter) ∧
      (v.extractLsb' 12 4 = 2#4 → v.extractLsb' 0 8 ≠ 0#8 →
        t.hs = .wait ∧ t.waitTarget = u.tickCounter + v.extractLsb' 0 8) ∧
      (v.extractLsb' 12 4 = 1#4 →
        guardTicks s.cfg (classify s.cfg (readCnt u (v.extractLsb' 8 1))) ≠ 0 →
        t.hs = .wait ∧
        t.rspHold = eventCode s.cfg (classify s.cfg (readCnt u (v.extractLsb' 8 1))) ∧
        t.waitTarget = u.tickCounter + guardTicks s.cfg (classify s.cfg (readCnt u (v.extractLsb' 8 1))))

/-- R82, R118: what the tick group holds after a run depends on its own start, the resets, the tick strobes and the
samples at them, and on nothing the host or the refresh agent does. -/
def Obligations.TimeBaseIsIndependentOfTheHost : Prop :=
  ∀ (k : Nat) (s u t x : State),
    s.cfg = u.cfg → s.tickCounter = u.tickCounter → s.history = u.history → s.pressCounter = u.pressCounter →
    k ≤ s.trace.length → k ≤ u.trace.length →
    (s.trace.take k).map (fun v => (v.getLsbD 21, v.getLsbD 19, if v.getLsbD 19 then v.extractLsb' 17 2 else 0)) =
      (u.trace.take k).map (fun v => (v.getLsbD 21, v.getLsbD 19, if v.getLsbD 19 then v.extractLsb' 17 2 else 0)) →
    runSteps k s = .next t → runSteps k u = .next x →
    t.tickCounter = x.tickCounter ∧ t.history = x.history ∧ t.pressCounter = x.pressCounter

/-- R32 item 6, R70: an activated digit-enable line always belongs to the pattern on the segment bus: at an instant with a
REFRESH the bus carries that digit's committed byte, and between refreshes bus and lines do not change. -/
def Obligations.EnabledDigitShowsItsSlot : Prop :=
  ∀ s t : State, step s = .next t → (nextStim s).getLsbD 21 = false →
    ((nextStim s).getLsbD 20 = true → ∀ i : BitVec 2, t.digEn.getLsbD i.toNat = true → t.seg = readComm s i) ∧
    ((nextStim s).getLsbD 20 = false → t.seg = s.seg ∧ t.digEn = s.digEn)

/-! ### Invariants and runs -/

/-- R32: the invariant holds in the reset state. -/
def Obligations.ResetStateMeetsTheInvariant : Prop := Inv State.reset

/-- R32: every step keeps the invariant, with a trace placed or with a free stimulus vector. -/
def Obligations.StepKeepsTheInvariant : Prop :=
  ∀ s t : State, Inv s → step s = .next t → Inv t

/-- R110: from every state that meets the invariant, no run ever stops, under any stimulus. -/
def Obligations.GoodStatesNeverStop : Prop := ∀ s : State, Inv s → SafeFrom s

/-- R47, R146: along every run, the commands accepted are those answered, those abandoned by a reset and the one still
in flight: every accepted command is answered exactly once or abandoned. -/
def Obligations.CommandsAreAnsweredExactlyOnce : Prop :=
  ∀ (k : Nat) (s t : State) (c : Tally), tallyRun k s = some (c, t) →
    c.answered + c.abandoned + (inFlight t).toNat = c.accepted + (inFlight s).toNat
end

