-- ==== Sys2Proof/Laws/State.lean ====
section
/-! SUPPORT. One lemma per field per named update of State: no later proof unfolds a record update. -/

namespace Sys2Proof.Machine

@[simp] theorem emit_cfg (v : Byte) (s : State) : (emit v s).cfg = s.cfg := rfl
@[simp] theorem emit_tickCounter (v : Byte) (s : State) : (emit v s).tickCounter = s.tickCounter := rfl
@[simp] theorem emit_history (v : Byte) (s : State) : (emit v s).history = s.history := rfl
@[simp] theorem emit_pressCounter (v : Byte) (s : State) : (emit v s).pressCounter = s.pressCounter := rfl
@[simp] theorem emit_cursor (v : Byte) (s : State) : (emit v s).cursor = s.cursor := rfl
@[simp] theorem emit_frameCounter (v : Byte) (s : State) : (emit v s).frameCounter = s.frameCounter := rfl
@[simp] theorem emit_dimDivisor (v : Byte) (s : State) : (emit v s).dimDivisor = s.dimDivisor := rfl
@[simp] theorem emit_committed (v : Byte) (s : State) : (emit v s).committed = s.committed := rfl
@[simp] theorem emit_pending (v : Byte) (s : State) : (emit v s).pending = s.pending := rfl
@[simp] theorem emit_seg (v : Byte) (s : State) : (emit v s).seg = s.seg := rfl
@[simp] theorem emit_digEn (v : Byte) (s : State) : (emit v s).digEn = s.digEn := rfl
@[simp] theorem emit_hs (v : Byte) (s : State) : (emit v s).hs = s.hs := rfl
@[simp] theorem emit_waitTarget (v : Byte) (s : State) : (emit v s).waitTarget = s.waitTarget := rfl
@[simp] theorem emit_rspHold (v : Byte) (s : State) : (emit v s).rspHold = s.rspHold := rfl
@[simp] theorem emit_commitIdx (v : Byte) (s : State) : (emit v s).commitIdx = s.commitIdx := rfl
@[simp] theorem emit_rsp (v : Byte) (s : State) : (emit v s).rsp = some v := rfl
@[simp] theorem emit_trace (v : Byte) (s : State) : (emit v s).trace = s.trace := rfl
@[simp] theorem emit_freeIdx (v : Byte) (s : State) : (emit v s).freeIdx = s.freeIdx := rfl

@[simp] theorem writeHist_cfg (ch : BitVec 1) (v : Byte) (s : State) : (writeHist ch v s).cfg = s.cfg := rfl
@[simp] theorem writeHist_tickCounter (ch : BitVec 1) (v : Byte) (s : State) : (writeHist ch v s).tickCounter = s.tickCounter := rfl
@[simp] theorem writeHist_history (ch : BitVec 1) (v : Byte) (s : State) : (writeHist ch v s).history = s.history.set ch v := rfl
@[simp] theorem writeHist_pressCounter (ch : BitVec 1) (v : Byte) (s : State) : (writeHist ch v s).pressCounter = s.pressCounter := rfl
@[simp] theorem writeHist_cursor (ch : BitVec 1) (v : Byte) (s : State) : (writeHist ch v s).cursor = s.cursor := rfl
@[simp] theorem writeHist_frameCounter (ch : BitVec 1) (v : Byte) (s : State) : (writeHist ch v s).frameCounter = s.frameCounter := rfl
@[simp] theorem writeHist_dimDivisor (ch : BitVec 1) (v : Byte) (s : State) : (writeHist ch v s).dimDivisor = s.dimDivisor := rfl
@[simp] theorem writeHist_committed (ch : BitVec 1) (v : Byte) (s : State) : (writeHist ch v s).committed = s.committed := rfl
@[simp] theorem writeHist_pending (ch : BitVec 1) (v : Byte) (s : State) : (writeHist ch v s).pending = s.pending := rfl
@[simp] theorem writeHist_seg (ch : BitVec 1) (v : Byte) (s : State) : (writeHist ch v s).seg = s.seg := rfl
@[simp] theorem writeHist_digEn (ch : BitVec 1) (v : Byte) (s : State) : (writeHist ch v s).digEn = s.digEn := rfl
@[simp] theorem writeHist_hs (ch : BitVec 1) (v : Byte) (s : State) : (writeHist ch v s).hs = s.hs := rfl
@[simp] theorem writeHist_waitTarget (ch : BitVec 1) (v : Byte) (s : State) : (writeHist ch v s).waitTarget = s.waitTarget := rfl
@[simp] theorem writeHist_rspHold (ch : BitVec 1) (v : Byte) (s : State) : (writeHist ch v s).rspHold = s.rspHold := rfl
@[simp] theorem writeHist_commitIdx (ch : BitVec 1) (v : Byte) (s : State) : (writeHist ch v s).commitIdx = s.commitIdx := rfl
@[simp] theorem writeHist_rsp (ch : BitVec 1) (v : Byte) (s : State) : (writeHist ch v s).rsp = s.rsp := rfl
@[simp] theorem writeHist_trace (ch : BitVec 1) (v : Byte) (s : State) : (writeHist ch v s).trace = s.trace := rfl
@[simp] theorem writeHist_freeIdx (ch : BitVec 1) (v : Byte) (s : State) : (writeHist ch v s).freeIdx = s.freeIdx := rfl

@[simp] theorem writeCnt_cfg (ch : BitVec 1) (v : Byte) (s : State) : (writeCnt ch v s).cfg = s.cfg := rfl
@[simp] theorem writeCnt_tickCounter (ch : BitVec 1) (v : Byte) (s : State) : (writeCnt ch v s).tickCounter = s.tickCounter := rfl
@[simp] theorem writeCnt_history (ch : BitVec 1) (v : Byte) (s : State) : (writeCnt ch v s).history = s.history := rfl
@[simp] theorem writeCnt_pressCounter (ch : BitVec 1) (v : Byte) (s : State) : (writeCnt ch v s).pressCounter = s.pressCounter.set ch v := rfl
@[simp] theorem writeCnt_cursor (ch : BitVec 1) (v : Byte) (s : State) : (writeCnt ch v s).cursor = s.cursor := rfl
@[simp] theorem writeCnt_frameCounter (ch : BitVec 1) (v : Byte) (s : State) : (writeCnt ch v s).frameCounter = s.frameCounter := rfl
@[simp] theorem writeCnt_dimDivisor (ch : BitVec 1) (v : Byte) (s : State) : (writeCnt ch v s).dimDivisor = s.dimDivisor := rfl
@[simp] theorem writeCnt_committed (ch : BitVec 1) (v : Byte) (s : State) : (writeCnt ch v s).committed = s.committed := rfl
@[simp] theorem writeCnt_pending (ch : BitVec 1) (v : Byte) (s : State) : (writeCnt ch v s).pending = s.pending := rfl
@[simp] theorem writeCnt_seg (ch : BitVec 1) (v : Byte) (s : State) : (writeCnt ch v s).seg = s.seg := rfl
@[simp] theorem writeCnt_digEn (ch : BitVec 1) (v : Byte) (s : State) : (writeCnt ch v s).digEn = s.digEn := rfl
@[simp] theorem writeCnt_hs (ch : BitVec 1) (v : Byte) (s : State) : (writeCnt ch v s).hs = s.hs := rfl
@[simp] theorem writeCnt_waitTarget (ch : BitVec 1) (v : Byte) (s : State) : (writeCnt ch v s).waitTarget = s.waitTarget := rfl
@[simp] theorem writeCnt_rspHold (ch : BitVec 1) (v : Byte) (s : State) : (writeCnt ch v s).rspHold = s.rspHold := rfl
@[simp] theorem writeCnt_commitIdx (ch : BitVec 1) (v : Byte) (s : State) : (writeCnt ch v s).commitIdx = s.commitIdx := rfl
@[simp] theorem writeCnt_rsp (ch : BitVec 1) (v : Byte) (s : State) : (writeCnt ch v s).rsp = s.rsp := rfl
@[simp] theorem writeCnt_trace (ch : BitVec 1) (v : Byte) (s : State) : (writeCnt ch v s).trace = s.trace := rfl
@[simp] theorem writeCnt_freeIdx (ch : BitVec 1) (v : Byte) (s : State) : (writeCnt ch v s).freeIdx = s.freeIdx := rfl

@[simp] theorem writePend_cfg (i : BitVec 2) (v : Byte) (s : State) : (writePend i v s).cfg = s.cfg := rfl
@[simp] theorem writePend_tickCounter (i : BitVec 2) (v : Byte) (s : State) : (writePend i v s).tickCounter = s.tickCounter := rfl
@[simp] theorem writePend_history (i : BitVec 2) (v : Byte) (s : State) : (writePend i v s).history = s.history := rfl
@[simp] theorem writePend_pressCounter (i : BitVec 2) (v : Byte) (s : State) : (writePend i v s).pressCounter = s.pressCounter := rfl
@[simp] theorem writePend_cursor (i : BitVec 2) (v : Byte) (s : State) : (writePend i v s).cursor = s.cursor := rfl
@[simp] theorem writePend_frameCounter (i : BitVec 2) (v : Byte) (s : State) : (writePend i v s).frameCounter = s.frameCounter := rfl
@[simp] theorem writePend_dimDivisor (i : BitVec 2) (v : Byte) (s : State) : (writePend i v s).dimDivisor = s.dimDivisor := rfl
@[simp] theorem writePend_committed (i : BitVec 2) (v : Byte) (s : State) : (writePend i v s).committed = s.committed := rfl
@[simp] theorem writePend_pending (i : BitVec 2) (v : Byte) (s : State) : (writePend i v s).pending = s.pending.set i v := rfl
@[simp] theorem writePend_seg (i : BitVec 2) (v : Byte) (s : State) : (writePend i v s).seg = s.seg := rfl
@[simp] theorem writePend_digEn (i : BitVec 2) (v : Byte) (s : State) : (writePend i v s).digEn = s.digEn := rfl
@[simp] theorem writePend_hs (i : BitVec 2) (v : Byte) (s : State) : (writePend i v s).hs = s.hs := rfl
@[simp] theorem writePend_waitTarget (i : BitVec 2) (v : Byte) (s : State) : (writePend i v s).waitTarget = s.waitTarget := rfl
@[simp] theorem writePend_rspHold (i : BitVec 2) (v : Byte) (s : State) : (writePend i v s).rspHold = s.rspHold := rfl
@[simp] theorem writePend_commitIdx (i : BitVec 2) (v : Byte) (s : State) : (writePend i v s).commitIdx = s.commitIdx := rfl
@[simp] theorem writePend_rsp (i : BitVec 2) (v : Byte) (s : State) : (writePend i v s).rsp = s.rsp := rfl
@[simp] theorem writePend_trace (i : BitVec 2) (v : Byte) (s : State) : (writePend i v s).trace = s.trace := rfl
@[simp] theorem writePend_freeIdx (i : BitVec 2) (v : Byte) (s : State) : (writePend i v s).freeIdx = s.freeIdx := rfl

@[simp] theorem writeComm_cfg (i : BitVec 2) (v : Byte) (s : State) : (writeComm i v s).cfg = s.cfg := rfl
@[simp] theorem writeComm_tickCounter (i : BitVec 2) (v : Byte) (s : State) : (writeComm i v s).tickCounter = s.tickCounter := rfl
@[simp] theorem writeComm_history (i : BitVec 2) (v : Byte) (s : State) : (writeComm i v s).history = s.history := rfl
@[simp] theorem writeComm_pressCounter (i : BitVec 2) (v : Byte) (s : State) : (writeComm i v s).pressCounter = s.pressCounter := rfl
@[simp] theorem writeComm_cursor (i : BitVec 2) (v : Byte) (s : State) : (writeComm i v s).cursor = s.cursor := rfl
@[simp] theorem writeComm_frameCounter (i : BitVec 2) (v : Byte) (s : State) : (writeComm i v s).frameCounter = s.frameCounter := rfl
@[simp] theorem writeComm_dimDivisor (i : BitVec 2) (v : Byte) (s : State) : (writeComm i v s).dimDivisor = s.dimDivisor := rfl
@[simp] theorem writeComm_committed (i : BitVec 2) (v : Byte) (s : State) : (writeComm i v s).committed = s.committed.set i v := rfl
@[simp] theorem writeComm_pending (i : BitVec 2) (v : Byte) (s : State) : (writeComm i v s).pending = s.pending := rfl
@[simp] theorem writeComm_seg (i : BitVec 2) (v : Byte) (s : State) : (writeComm i v s).seg = s.seg := rfl
@[simp] theorem writeComm_digEn (i : BitVec 2) (v : Byte) (s : State) : (writeComm i v s).digEn = s.digEn := rfl
@[simp] theorem writeComm_hs (i : BitVec 2) (v : Byte) (s : State) : (writeComm i v s).hs = s.hs := rfl
@[simp] theorem writeComm_waitTarget (i : BitVec 2) (v : Byte) (s : State) : (writeComm i v s).waitTarget = s.waitTarget := rfl
@[simp] theorem writeComm_rspHold (i : BitVec 2) (v : Byte) (s : State) : (writeComm i v s).rspHold = s.rspHold := rfl
@[simp] theorem writeComm_commitIdx (i : BitVec 2) (v : Byte) (s : State) : (writeComm i v s).commitIdx = s.commitIdx := rfl
@[simp] theorem writeComm_rsp (i : BitVec 2) (v : Byte) (s : State) : (writeComm i v s).rsp = s.rsp := rfl
@[simp] theorem writeComm_trace (i : BitVec 2) (v : Byte) (s : State) : (writeComm i v s).trace = s.trace := rfl
@[simp] theorem writeComm_freeIdx (i : BitVec 2) (v : Byte) (s : State) : (writeComm i v s).freeIdx = s.freeIdx := rfl

@[simp] theorem copySlot_cfg (i : BitVec 2) (s : State) : (copySlot i s).cfg = s.cfg := rfl
@[simp] theorem copySlot_tickCounter (i : BitVec 2) (s : State) : (copySlot i s).tickCounter = s.tickCounter := rfl
@[simp] theorem copySlot_history (i : BitVec 2) (s : State) : (copySlot i s).history = s.history := rfl
@[simp] theorem copySlot_pressCounter (i : BitVec 2) (s : State) : (copySlot i s).pressCounter = s.pressCounter := rfl
@[simp] theorem copySlot_cursor (i : BitVec 2) (s : State) : (copySlot i s).cursor = s.cursor := rfl
@[simp] theorem copySlot_frameCounter (i : BitVec 2) (s : State) : (copySlot i s).frameCounter = s.frameCounter := rfl
@[simp] theorem copySlot_dimDivisor (i : BitVec 2) (s : State) : (copySlot i s).dimDivisor = s.dimDivisor := rfl
@[simp] theorem copySlot_committed (i : BitVec 2) (s : State) : (copySlot i s).committed = s.committed.set i (commitByte s i) := rfl
@[simp] theorem copySlot_pending (i : BitVec 2) (s : State) : (copySlot i s).pending = s.pending := rfl
@[simp] theorem copySlot_seg (i : BitVec 2) (s : State) : (copySlot i s).seg = s.seg := rfl
@[simp] theorem copySlot_digEn (i : BitVec 2) (s : State) : (copySlot i s).digEn = s.digEn := rfl
@[simp] theorem copySlot_hs (i : BitVec 2) (s : State) : (copySlot i s).hs = s.hs := rfl
@[simp] theorem copySlot_waitTarget (i : BitVec 2) (s : State) : (copySlot i s).waitTarget = s.waitTarget := rfl
@[simp] theorem copySlot_rspHold (i : BitVec 2) (s : State) : (copySlot i s).rspHold = s.rspHold := rfl
@[simp] theorem copySlot_commitIdx (i : BitVec 2) (s : State) : (copySlot i s).commitIdx = s.commitIdx := rfl
@[simp] theorem copySlot_rsp (i : BitVec 2) (s : State) : (copySlot i s).rsp = s.rsp := rfl
@[simp] theorem copySlot_trace (i : BitVec 2) (s : State) : (copySlot i s).trace = s.trace := rfl
@[simp] theorem copySlot_freeIdx (i : BitVec 2) (s : State) : (copySlot i s).freeIdx = s.freeIdx := rfl

@[simp] theorem advanceTick_cfg (s : State) : (advanceTick s).cfg = s.cfg := rfl
@[simp] theorem advanceTick_tickCounter (s : State) : (advanceTick s).tickCounter = s.tickCounter + 1 := rfl
@[simp] theorem advanceTick_history (s : State) : (advanceTick s).history = s.history := rfl
@[simp] theorem advanceTick_pressCounter (s : State) : (advanceTick s).pressCounter = s.pressCounter := rfl
@[simp] theorem advanceTick_cursor (s : State) : (advanceTick s).cursor = s.cursor := rfl
@[simp] theorem advanceTick_frameCounter (s : State) : (advanceTick s).frameCounter = s.frameCounter := rfl
@[simp] theorem advanceTick_dimDivisor (s : State) : (advanceTick s).dimDivisor = s.dimDivisor := rfl
@[simp] theorem advanceTick_committed (s : State) : (advanceTick s).committed = s.committed := rfl
@[simp] theorem advanceTick_pending (s : State) : (advanceTick s).pending = s.pending := rfl
@[simp] theorem advanceTick_seg (s : State) : (advanceTick s).seg = s.seg := rfl
@[simp] theorem advanceTick_digEn (s : State) : (advanceTick s).digEn = s.digEn := rfl
@[simp] theorem advanceTick_hs (s : State) : (advanceTick s).hs = s.hs := rfl
@[simp] theorem advanceTick_waitTarget (s : State) : (advanceTick s).waitTarget = s.waitTarget := rfl
@[simp] theorem advanceTick_rspHold (s : State) : (advanceTick s).rspHold = s.rspHold := rfl
@[simp] theorem advanceTick_commitIdx (s : State) : (advanceTick s).commitIdx = s.commitIdx := rfl
@[simp] theorem advanceTick_rsp (s : State) : (advanceTick s).rsp = s.rsp := rfl
@[simp] theorem advanceTick_trace (s : State) : (advanceTick s).trace = s.trace := rfl
@[simp] theorem advanceTick_freeIdx (s : State) : (advanceTick s).freeIdx = s.freeIdx := rfl

@[simp] theorem blankDigits_cfg (s : State) : (blankDigits s).cfg = s.cfg := rfl
@[simp] theorem blankDigits_tickCounter (s : State) : (blankDigits s).tickCounter = s.tickCounter := rfl
@[simp] theorem blankDigits_history (s : State) : (blankDigits s).history = s.history := rfl
@[simp] theorem blankDigits_pressCounter (s : State) : (blankDigits s).pressCounter = s.pressCounter := rfl
@[simp] theorem blankDigits_cursor (s : State) : (blankDigits s).cursor = s.cursor := rfl
@[simp] theorem blankDigits_frameCounter (s : State) : (blankDigits s).frameCounter = s.frameCounter := rfl
@[simp] theorem blankDigits_dimDivisor (s : State) : (blankDigits s).dimDivisor = s.dimDivisor := rfl
@[simp] theorem blankDigits_committed (s : State) : (blankDigits s).committed = s.committed := rfl
@[simp] theorem blankDigits_pending (s : State) : (blankDigits s).pending = s.pending := rfl
@[simp] theorem blankDigits_seg (s : State) : (blankDigits s).seg = s.seg := rfl
@[simp] theorem blankDigits_digEn (s : State) : (blankDigits s).digEn = 0b0000 := rfl
@[simp] theorem blankDigits_hs (s : State) : (blankDigits s).hs = s.hs := rfl
@[simp] theorem blankDigits_waitTarget (s : State) : (blankDigits s).waitTarget = s.waitTarget := rfl
@[simp] theorem blankDigits_rspHold (s : State) : (blankDigits s).rspHold = s.rspHold := rfl
@[simp] theorem blankDigits_commitIdx (s : State) : (blankDigits s).commitIdx = s.commitIdx := rfl
@[simp] theorem blankDigits_rsp (s : State) : (blankDigits s).rsp = s.rsp := rfl
@[simp] theorem blankDigits_trace (s : State) : (blankDigits s).trace = s.trace := rfl
@[simp] theorem blankDigits_freeIdx (s : State) : (blankDigits s).freeIdx = s.freeIdx := rfl

@[simp] theorem driveDigit_cfg (s : State) : (driveDigit s).cfg = s.cfg := rfl
@[simp] theorem driveDigit_tickCounter (s : State) : (driveDigit s).tickCounter = s.tickCounter := rfl
@[simp] theorem driveDigit_history (s : State) : (driveDigit s).history = s.history := rfl
@[simp] theorem driveDigit_pressCounter (s : State) : (driveDigit s).pressCounter = s.pressCounter := rfl
@[simp] theorem driveDigit_cursor (s : State) : (driveDigit s).cursor = s.cursor := rfl
@[simp] theorem driveDigit_frameCounter (s : State) : (driveDigit s).frameCounter = s.frameCounter := rfl
@[simp] theorem driveDigit_dimDivisor (s : State) : (driveDigit s).dimDivisor = s.dimDivisor := rfl
@[simp] theorem driveDigit_committed (s : State) : (driveDigit s).committed = s.committed := rfl
@[simp] theorem driveDigit_pending (s : State) : (driveDigit s).pending = s.pending := rfl
@[simp] theorem driveDigit_seg (s : State) : (driveDigit s).seg = readComm s s.cursor := rfl
@[simp] theorem driveDigit_digEn (s : State) : (driveDigit s).digEn = 1#4 <<< s.cursor.toNat := rfl
@[simp] theorem driveDigit_hs (s : State) : (driveDigit s).hs = s.hs := rfl
@[simp] theorem driveDigit_waitTarget (s : State) : (driveDigit s).waitTarget = s.waitTarget := rfl
@[simp] theorem driveDigit_rspHold (s : State) : (driveDigit s).rspHold = s.rspHold := rfl
@[simp] theorem driveDigit_commitIdx (s : State) : (driveDigit s).commitIdx = s.commitIdx := rfl
@[simp] theorem driveDigit_rsp (s : State) : (driveDigit s).rsp = s.rsp := rfl
@[simp] theorem driveDigit_trace (s : State) : (driveDigit s).trace = s.trace := rfl
@[simp] theorem driveDigit_freeIdx (s : State) : (driveDigit s).freeIdx = s.freeIdx := rfl

@[simp] theorem advanceFrame_cfg (s : State) : (advanceFrame s).cfg = s.cfg := rfl
@[simp] theorem advanceFrame_tickCounter (s : State) : (advanceFrame s).tickCounter = s.tickCounter := rfl
@[simp] theorem advanceFrame_history (s : State) : (advanceFrame s).history = s.history := rfl
@[simp] theorem advanceFrame_pressCounter (s : State) : (advanceFrame s).pressCounter = s.pressCounter := rfl
@[simp] theorem advanceFrame_cursor (s : State) : (advanceFrame s).cursor = s.cursor + 1 := rfl
@[simp] theorem advanceFrame_frameCounter (s : State) : (advanceFrame s).frameCounter = s.frameCounter + 1 := rfl
@[simp] theorem advanceFrame_dimDivisor (s : State) : (advanceFrame s).dimDivisor = s.dimDivisor := rfl
@[simp] theorem advanceFrame_committed (s : State) : (advanceFrame s).committed = s.committed := rfl
@[simp] theorem advanceFrame_pending (s : State) : (advanceFrame s).pending = s.pending := rfl
@[simp] theorem advanceFrame_seg (s : State) : (advanceFrame s).seg = s.seg := rfl
@[simp] theorem advanceFrame_digEn (s : State) : (advanceFrame s).digEn = s.digEn := rfl
@[simp] theorem advanceFrame_hs (s : State) : (advanceFrame s).hs = s.hs := rfl
@[simp] theorem advanceFrame_waitTarget (s : State) : (advanceFrame s).waitTarget = s.waitTarget := rfl
@[simp] theorem advanceFrame_rspHold (s : State) : (advanceFrame s).rspHold = s.rspHold := rfl
@[simp] theorem advanceFrame_commitIdx (s : State) : (advanceFrame s).commitIdx = s.commitIdx := rfl
@[simp] theorem advanceFrame_rsp (s : State) : (advanceFrame s).rsp = s.rsp := rfl
@[simp] theorem advanceFrame_trace (s : State) : (advanceFrame s).trace = s.trace := rfl
@[simp] theorem advanceFrame_freeIdx (s : State) : (advanceFrame s).freeIdx = s.freeIdx := rfl

@[simp] theorem beginCommit_cfg (s : State) : (beginCommit s).cfg = s.cfg := rfl
@[simp] theorem beginCommit_tickCounter (s : State) : (beginCommit s).tickCounter = s.tickCounter := rfl
@[simp] theorem beginCommit_history (s : State) : (beginCommit s).history = s.history := rfl
@[simp] theorem beginCommit_pressCounter (s : State) : (beginCommit s).pressCounter = s.pressCounter := rfl
@[simp] theorem beginCommit_cursor (s : State) : (beginCommit s).cursor = s.cursor := rfl
@[simp] theorem beginCommit_frameCounter (s : State) : (beginCommit s).frameCounter = s.frameCounter := rfl
@[simp] theorem beginCommit_dimDivisor (s : State) : (beginCommit s).dimDivisor = s.dimDivisor := rfl
@[simp] theorem beginCommit_committed (s : State) : (beginCommit s).committed = s.committed := rfl
@[simp] theorem beginCommit_pending (s : State) : (beginCommit s).pending = s.pending := rfl
@[simp] theorem beginCommit_seg (s : State) : (beginCommit s).seg = s.seg := rfl
@[simp] theorem beginCommit_digEn (s : State) : (beginCommit s).digEn = s.digEn := rfl
@[simp] theorem beginCommit_hs (s : State) : (beginCommit s).hs = .commit := rfl
@[simp] theorem beginCommit_waitTarget (s : State) : (beginCommit s).waitTarget = s.waitTarget := rfl
@[simp] theorem beginCommit_rspHold (s : State) : (beginCommit s).rspHold = s.rspHold := rfl
@[simp] theorem beginCommit_commitIdx (s : State) : (beginCommit s).commitIdx = 0 := rfl
@[simp] theorem beginCommit_rsp (s : State) : (beginCommit s).rsp = s.rsp := rfl
@[simp] theorem beginCommit_trace (s : State) : (beginCommit s).trace = s.trace := rfl
@[simp] theorem beginCommit_freeIdx (s : State) : (beginCommit s).freeIdx = s.freeIdx := rfl

@[simp] theorem withTrace_cfg (t : List StimVec) (s : State) : (withTrace t s).cfg = s.cfg := rfl
@[simp] theorem withTrace_tickCounter (t : List StimVec) (s : State) : (withTrace t s).tickCounter = s.tickCounter := rfl
@[simp] theorem withTrace_history (t : List StimVec) (s : State) : (withTrace t s).history = s.history := rfl
@[simp] theorem withTrace_pressCounter (t : List StimVec) (s : State) : (withTrace t s).pressCounter = s.pressCounter := rfl
@[simp] theorem withTrace_cursor (t : List StimVec) (s : State) : (withTrace t s).cursor = s.cursor := rfl
@[simp] theorem withTrace_frameCounter (t : List StimVec) (s : State) : (withTrace t s).frameCounter = s.frameCounter := rfl
@[simp] theorem withTrace_dimDivisor (t : List StimVec) (s : State) : (withTrace t s).dimDivisor = s.dimDivisor := rfl
@[simp] theorem withTrace_committed (t : List StimVec) (s : State) : (withTrace t s).committed = s.committed := rfl
@[simp] theorem withTrace_pending (t : List StimVec) (s : State) : (withTrace t s).pending = s.pending := rfl
@[simp] theorem withTrace_seg (t : List StimVec) (s : State) : (withTrace t s).seg = s.seg := rfl
@[simp] theorem withTrace_digEn (t : List StimVec) (s : State) : (withTrace t s).digEn = s.digEn := rfl
@[simp] theorem withTrace_hs (t : List StimVec) (s : State) : (withTrace t s).hs = s.hs := rfl
@[simp] theorem withTrace_waitTarget (t : List StimVec) (s : State) : (withTrace t s).waitTarget = s.waitTarget := rfl
@[simp] theorem withTrace_rspHold (t : List StimVec) (s : State) : (withTrace t s).rspHold = s.rspHold := rfl
@[simp] theorem withTrace_commitIdx (t : List StimVec) (s : State) : (withTrace t s).commitIdx = s.commitIdx := rfl
@[simp] theorem withTrace_rsp (t : List StimVec) (s : State) : (withTrace t s).rsp = s.rsp := rfl
@[simp] theorem withTrace_trace (t : List StimVec) (s : State) : (withTrace t s).trace = t := rfl
@[simp] theorem withTrace_freeIdx (t : List StimVec) (s : State) : (withTrace t s).freeIdx = s.freeIdx := rfl

@[simp] theorem startWait_cfg (n v : Byte) (s : State) : (startWait n v s).cfg = s.cfg := by
  unfold startWait; split <;> rfl
@[simp] theorem startWait_tickCounter (n v : Byte) (s : State) : (startWait n v s).tickCounter = s.tickCounter := by
  unfold startWait; split <;> rfl
@[simp] theorem startWait_history (n v : Byte) (s : State) : (startWait n v s).history = s.history := by
  unfold startWait; split <;> rfl
@[simp] theorem startWait_pressCounter (n v : Byte) (s : State) : (startWait n v s).pressCounter = s.pressCounter := by
  unfold startWait; split <;> rfl
@[simp] theorem startWait_cursor (n v : Byte) (s : State) : (startWait n v s).cursor = s.cursor := by
  unfold startWait; split <;> rfl
@[simp] theorem startWait_frameCounter (n v : Byte) (s : State) : (startWait n v s).frameCounter = s.frameCounter := by
  unfold startWait; split <;> rfl
@[simp] theorem startWait_dimDivisor (n v : Byte) (s : State) : (startWait n v s).dimDivisor = s.dimDivisor := by
  unfold startWait; split <;> rfl
@[simp] theorem startWait_committed (n v : Byte) (s : State) : (startWait n v s).committed = s.committed := by
  unfold startWait; split <;> rfl
@[simp] theorem startWait_pending (n v : Byte) (s : State) : (startWait n v s).pending = s.pending := by
  unfold startWait; split <;> rfl
@[simp] theorem startWait_seg (n v : Byte) (s : State) : (startWait n v s).seg = s.seg := by
  unfold startWait; split <;> rfl
@[simp] theorem startWait_digEn (n v : Byte) (s : State) : (startWait n v s).digEn = s.digEn := by
  unfold startWait; split <;> rfl
@[simp] theorem startWait_commitIdx (n v : Byte) (s : State) : (startWait n v s).commitIdx = s.commitIdx := by
  unfold startWait; split <;> rfl
@[simp] theorem startWait_trace (n v : Byte) (s : State) : (startWait n v s).trace = s.trace := by
  unfold startWait; split <;> rfl
@[simp] theorem startWait_freeIdx (n v : Byte) (s : State) : (startWait n v s).freeIdx = s.freeIdx := by
  unfold startWait; split <;> rfl

@[simp] theorem beginInstant_cfg (s : State) : (beginInstant s).cfg = s.cfg := by
  unfold beginInstant; split <;> simp_all
@[simp] theorem beginInstant_tickCounter (s : State) : (beginInstant s).tickCounter = s.tickCounter := by
  unfold beginInstant; split <;> simp_all
@[simp] theorem beginInstant_history (s : State) : (beginInstant s).history = s.history := by
  unfold beginInstant; split <;> simp_all
@[simp] theorem beginInstant_pressCounter (s : State) : (beginInstant s).pressCounter = s.pressCounter := by
  unfold beginInstant; split <;> simp_all
@[simp] theorem beginInstant_cursor (s : State) : (beginInstant s).cursor = s.cursor := by
  unfold beginInstant; split <;> simp_all
@[simp] theorem beginInstant_frameCounter (s : State) : (beginInstant s).frameCounter = s.frameCounter := by
  unfold beginInstant; split <;> simp_all
@[simp] theorem beginInstant_dimDivisor (s : State) : (beginInstant s).dimDivisor = s.dimDivisor := by
  unfold beginInstant; split <;> simp_all
@[simp] theorem beginInstant_committed (s : State) : (beginInstant s).committed = s.committed := by
  unfold beginInstant; split <;> simp_all
@[simp] theorem beginInstant_pending (s : State) : (beginInstant s).pending = s.pending := by
  unfold beginInstant; split <;> simp_all
@[simp] theorem beginInstant_seg (s : State) : (beginInstant s).seg = s.seg := by
  unfold beginInstant; split <;> simp_all
@[simp] theorem beginInstant_digEn (s : State) : (beginInstant s).digEn = s.digEn := by
  unfold beginInstant; split <;> simp_all
@[simp] theorem beginInstant_hs (s : State) : (beginInstant s).hs = s.hs := by
  unfold beginInstant; split <;> simp_all
@[simp] theorem beginInstant_waitTarget (s : State) : (beginInstant s).waitTarget = s.waitTarget := by
  unfold beginInstant; split <;> simp_all
@[simp] theorem beginInstant_rspHold (s : State) : (beginInstant s).rspHold = s.rspHold := by
  unfold beginInstant; split <;> simp_all
@[simp] theorem beginInstant_commitIdx (s : State) : (beginInstant s).commitIdx = s.commitIdx := by
  unfold beginInstant; split <;> simp_all
@[simp] theorem beginInstant_rsp (s : State) : (beginInstant s).rsp = none := by
  unfold beginInstant; split <;> simp_all
@[simp] theorem beginInstant_trace (s : State) : (beginInstant s).trace = s.trace.tail := by
  unfold beginInstant; split <;> simp_all

/-- Reading a channel just written. -/
@[simp] theorem ChannelArray.get_set_same (a : ChannelArray) (ch : BitVec 1) (v : Byte) : (a.set ch v).get ch = v := by
  unfold ChannelArray.get ChannelArray.set; split <;> rfl

/-- A write leaves the other channel alone. -/
theorem ChannelArray.get_set_other (a : ChannelArray) {i j : BitVec 1} (v : Byte) (h : i ≠ j) :
    (a.set i v).get j = a.get j := by
  have all : ∀ k : BitVec 1, k = 0 ∨ k = 1 := by decide
  obtain rfl | rfl := all i <;> obtain rfl | rfl := all j <;> simp_all [ChannelArray.get, ChannelArray.set]

/-- Reading a slot just written. -/
@[simp] theorem SlotArray.get_set_same (a : SlotArray) (i : BitVec 2) (v : Byte) : (a.set i v).get i = v := by
  unfold SlotArray.get SlotArray.set
  split_ifs <;> rfl

/-- A write leaves the other slots alone. -/
theorem SlotArray.get_set_other (a : SlotArray) {i j : BitVec 2} (v : Byte) (h : i ≠ j) :
    (a.set i v).get j = a.get j := by
  have all : ∀ k : BitVec 2, k = 0 ∨ k = 1 ∨ k = 2 ∨ k = 3 := by decide
  obtain rfl | rfl | rfl | rfl := all i <;> obtain rfl | rfl | rfl | rfl := all j <;>
    simp_all [SlotArray.get, SlotArray.set]

/-- Two channel arrays that read alike are equal. -/
theorem ChannelArray.ext_get {a b : ChannelArray} (h : ∀ ch, a.get ch = b.get ch) : a = b := by
  cases a; cases b
  have h0 := h 0
  have h1 := h 1
  simp_all [ChannelArray.get]

/-- Two slot arrays that read alike are equal. -/
theorem SlotArray.ext_get {a b : SlotArray} (h : ∀ i, a.get i = b.get i) : a = b := by
  cases a; cases b
  have h0 := h 0
  have h1 := h 1
  have h2 := h 2
  have h3 := h 3
  simp_all [SlotArray.get]

end Sys2Proof.Machine
end

