-- ==== Sys2Proof/Laws/Ops.lean ====
section
/-! SUPPORT. For each shared operation, one lemma that says everything it can do. Provers cite these instead of
unfolding the operation. -/

namespace Sys2Proof.Machine

/-! ### Outcomes and sequences of operations -/

@[simp] theorem andThen_next (s : State) (f : State → Host.Outcome State Fault Refusal) :
    andThen (.next s) f = f s := rfl

@[simp] theorem andThen_fault (r : Fault) (f : State → Host.Outcome State Fault Refusal) :
    andThen (.fault r) f = .fault r := rfl

@[simp] theorem andThen_refused (r : Refusal) (f : State → Host.Outcome State Fault Refusal) :
    andThen (.refused r) f = .refused r := rfl

/-- A composition answers a next state only through one in the middle. -/
theorem andThen_eq_next {o : Host.Outcome State Fault Refusal} {f : State → Host.Outcome State Fault Refusal}
    {t : State} (h : andThen o f = .next t) : ∃ s, o = .next s ∧ f s = .next t := by
  cases o with
  | next s => exact ⟨s, rfl, h⟩
  | fault r => cases h
  | refused r => cases h

theorem andThen_assoc (o : Host.Outcome State Fault Refusal) (f g : State → Host.Outcome State Fault Refusal) :
    andThen (andThen o f) g = andThen o (fun s => andThen (f s) g) := by
  cases o <;> rfl

@[simp] theorem runOps_nil (s : State) : runOps [] s = .next s := rfl

theorem runOps_cons (i : Instr) (is : List Instr) (s : State) :
    runOps (i :: is) s = andThen (exec i s) (runOps is) := rfl

theorem runOps_singleton (i : Instr) (s : State) : runOps [i] s = exec i s := by
  rw [runOps_cons]
  cases exec i s <;> rfl

theorem runOps_append (as bs : List Instr) (s : State) :
    runOps (as ++ bs) s = andThen (runOps as s) (runOps bs) := by
  induction as generalizing s with
  | nil => rfl
  | cons i is ih =>
    simp only [List.cons_append, runOps_cons, andThen_assoc]
    cases exec i s <;> simp [ih]

/-- A property that each of the operations keeps is kept by the sequence. -/
theorem runOps_keeps {P : State → Prop} {is : List Instr}
    (each : ∀ i ∈ is, ∀ s t, P s → exec i s = .next t → P t) {s t : State} (hs : P s)
    (h : runOps is s = .next t) : P t := by
  induction is generalizing s with
  | nil => cases h; exact hs
  | cons i is ih =>
    obtain ⟨m, hm, hrest⟩ := andThen_eq_next h
    exact ih (fun j hj => each j (List.mem_cons_of_mem _ hj)) (each i List.mem_cons_self s m hs hm) hrest

/-! ### The host port -/

theorem whenIdle_idle {s : State} (effect : State → State) (h : s.hs = .idle) : whenIdle effect s = effect s :=
  if_pos h

theorem whenIdle_busy {s : State} (effect : State → State) (h : s.hs ≠ .idle) : whenIdle effect s = s :=
  if_neg h

/-- STARTWAIT either answers at once or waits for `n` more ticks (R85). -/
theorem startWait_cases (n v : Byte) (s : State) :
    (n = 0 ∧ startWait n v s = emit v s) ∨
    (n ≠ 0 ∧ startWait n v s = { s with waitTarget := s.tickCounter + n, rspHold := v, hs := .wait }) := by
  by_cases h : n = 0
  · exact .inl ⟨h, if_pos h⟩
  · exact .inr ⟨h, if_neg h⟩

/-- WAITCHECK in WAIT either ends the wait or changes nothing (R86). -/
theorem checkWait_cases (s : State) :
    (s.tickCounter = s.waitTarget ∧ checkWait s = emit s.rspHold { s with hs := .idle }) ∨
    (s.tickCounter ≠ s.waitTarget ∧ checkWait s = s) := by
  by_cases h : s.tickCounter = s.waitTarget
  · exact .inl ⟨h, if_pos h⟩
  · exact .inr ⟨h, if_neg h⟩

/-! ### The tick agent -/

/-- CHANNEL_UPDATE writes one channel's history and counter and nothing else (R78). -/
theorem channelUpdate_eq (ch sample : BitVec 1) (s : State) :
    channelUpdate ch sample s =
      { s with
        history := s.history.set ch (shiftIn (readHist s ch) sample)
        pressCounter := s.pressCounter.set ch
          (nextCount s.cfg (shiftIn (readHist s ch) sample) (readCnt s ch)) } := rfl

/-- A new press counter is 0, REBASE_TO, or one more than before and at most REBASE_AT (R78). -/
theorem nextCount_cases (c : Config) (history count : Byte) :
    (winClosed c history = false ∧ (nextCount c history count = 0)) ∨
    (winClosed c history = true ∧ c.rebaseAt.toNat < count.toNat + 1 ∧ nextCount c history count = c.rebaseTo) ∨
    (winClosed c history = true ∧ count.toNat + 1 ≤ c.rebaseAt.toNat ∧
      (nextCount c history count).toNat = count.toNat + 1) := by
  unfold nextCount
  cases hw : winClosed c history with
  | false => simp
  | true =>
    have hr := c.rebaseAt.isLt
    by_cases hb : c.rebaseAt.toNat < count.toNat + 1
    · simp [hb]
    · refine .inr (.inr ⟨rfl, by omega, ?_⟩)
      simp only [if_true, hb, if_false, BitVec.toNat_ofNat]
      omega

/-- What TICK does to one channel depends on that channel alone (R77). -/
theorem sampleAndAdvance_readHist (sw : BitVec 2) (s : State) (ch : BitVec 1) :
    readHist (sampleAndAdvance sw s) ch = shiftIn (readHist s ch) (sampleOf sw ch) := by
  have hc : ch = 0 ∨ ch = 1 := by revert ch; decide
  obtain rfl | rfl := hc <;>
    simp [sampleAndAdvance, channelUpdate, readHist, ChannelArray.get, ChannelArray.set]

theorem sampleAndAdvance_readCnt (sw : BitVec 2) (s : State) (ch : BitVec 1) :
    readCnt (sampleAndAdvance sw s) ch =
      nextCount s.cfg (shiftIn (readHist s ch) (sampleOf sw ch)) (readCnt s ch) := by
  have hc : ch = 0 ∨ ch = 1 := by revert ch; decide
  obtain rfl | rfl := hc <;>
    simp [sampleAndAdvance, channelUpdate, readHist, readCnt, ChannelArray.get, ChannelArray.set]

/-- TICK writes its own three registers and nothing else. -/
theorem sampleAndAdvance_eq (sw : BitVec 2) (s : State) :
    sampleAndAdvance sw s =
      { s with
        tickCounter := s.tickCounter + 1
        history := (sampleAndAdvance sw s).history
        pressCounter := (sampleAndAdvance sw s).pressCounter } := rfl

/-! ### The refresh agent -/

/-- REFRESH is lit or not, and advances either way (R70). -/
theorem serveDigit_cases (s : State) :
    (lit s.cfg s.frameCounter s.dimDivisor = true ∧
      serveDigit s = { s with seg := readComm s s.cursor, digEn := 1#4 <<< s.cursor.toNat, cursor := s.cursor + 1,
                              frameCounter := s.frameCounter + 1 }) ∨
    (lit s.cfg s.frameCounter s.dimDivisor = false ∧
      serveDigit s = { s with digEn := 0b0000, cursor := s.cursor + 1, frameCounter := s.frameCounter + 1 }) := by
  cases h : lit s.cfg s.frameCounter s.dimDivisor with
  | true => exact .inl ⟨rfl, by simp [serveDigit, h]; rfl⟩
  | false => exact .inr ⟨rfl, by simp [serveDigit, h]; rfl⟩

/-! ### Selecting an instant's operations -/

/-- A reset vector selects RESET alone (R67). -/
theorem selected_rst {hs0 : HostState} {v : StimVec} (h : (Stim.ofVector v).rst = true) :
    selected hs0 v = [.reset] := by
  simp [selected, decode, decodeFields, h, conditionMet, requiredHs]

/-- The command a vector presents needs an idle host port. -/
theorem conditionMet_decodeCmd (hs0 : HostState) (w : CmdWord) :
    conditionMet hs0 (decodeCmd w) = (HostState.idle == hs0) := by
  unfold decodeCmd
  split <;> rfl

/-- What an instant without reset selects, phase by phase (R67). -/
theorem selected_phases {hs0 : HostState} {v : StimVec} (h : (Stim.ofVector v).rst = false) :
    selected hs0 v =
      (if (Stim.ofVector v).refreshStb then [.refresh] else [])
        ++ (if (Stim.ofVector v).tickStb then
              .tick (Stim.ofVector v).sw :: (if hs0 = .wait then [.waitcheck] else []) else [])
        ++ (if hs0 = .idle ∧ (Stim.ofVector v).cmdValid then [decodeCmd (Stim.ofVector v).cmd] else [])
        ++ (if hs0 = .commit then [.commitstep] else []) := by
  have hr : ∀ h, conditionMet h .refresh = true := fun _ => rfl
  have ht : ∀ h sw, conditionMet h (.tick sw) = true := fun _ _ => rfl
  have hw : ∀ h, conditionMet h .waitcheck = (HostState.wait == h) := fun _ => rfl
  have hc : ∀ h, conditionMet h .commitstep = (HostState.commit == h) := fun _ => rfl
  simp only [selected, decode, decodeFields, h]
  cases (Stim.ofVector v).refreshStb <;> cases (Stim.ofVector v).tickStb <;>
    cases (Stim.ofVector v).cmdValid <;> cases hs0 <;>
    simp [hr, ht, hw, hc, conditionMet_decodeCmd]

/-! ### Assembly -/

@[simp] theorem repLines_zero (body : List TraceLine) : repLines 0 body = [] := rfl

theorem repLines_succ (n : Nat) (body : List TraceLine) : repLines (n + 1) body = body ++ repLines n body := by
  simp [repLines, List.replicate_succ]

end Sys2Proof.Machine
end

