-- ==== Sys2Proof/Laws/Exec.lean ====
section
/-! SUPPORT. `exec` read through each arm once, a step read as one instant, and runs. -/

namespace Sys2Proof.Machine

theorem exec_reset (s : State) : exec .reset s = .next (resetRegisters s) := rfl
theorem exec_refresh {s : State} (h : s.dimDivisor ≠ 0) : exec .refresh s = .next (serveDigit s) := if_neg h
theorem exec_refresh_zero {s : State} (h : s.dimDivisor = 0) : exec .refresh s = .fault .dimDivisorZero := if_pos h
theorem exec_tick (sw : BitVec 2) (s : State) : exec (.tick sw) s = .next (sampleAndAdvance sw s) := rfl
theorem exec_waitcheck {s : State} (h : s.hs = .wait) : exec .waitcheck s = .next (checkWait s) :=
  congrArg _ (if_pos h)
theorem exec_commitstep {s : State} (h : s.hs = .commit) : exec .commitstep s = .next (commitOneSlot s) :=
  congrArg _ (if_pos h)

/-- Every operation but REFRESH answers a next state, and a REFRESH that answers one served a digit. -/
theorem exec_refresh_next {s t : State} (h : exec .refresh s = .next t) : s.dimDivisor ≠ 0 ∧ t = serveDigit s := by
  by_cases hd : s.dimDivisor = 0
  · rw [exec_refresh_zero hd] at h; cases h
  · rw [exec_refresh hd] at h; cases h; exact ⟨hd, rfl⟩

/-- A step with a line placed runs what that line selects. -/
theorem step_trace (v : StimVec) (rest : List StimVec) (s : State) (h : s.trace = v :: rest) :
    step s = runOps (selected s.hs v) { s with rsp := none, trace := rest } := by
  simp [step, instant, nextStim, beginInstant, h]

/-- A step with no line placed runs what a free vector selects. -/
theorem step_free (s : State) (h : s.trace = []) :
    step s = runOps (selected s.hs (Config.freeStim s.freeIdx)) { s with rsp := none, freeIdx := s.freeIdx + 1 } := by
  simp [step, instant, nextStim, beginInstant, h]

end Sys2Proof.Machine

namespace Sys2Proof.Safety

open Sys2Proof.Machine

@[simp] theorem runSteps_zero (s : State) : runSteps 0 s = .next s := rfl

theorem runSteps_succ (k : Nat) (s : State) : runSteps (k + 1) s = andThen (step s) (runSteps k) := rfl

theorem runSteps_add (j k : Nat) (s : State) : runSteps (j + k) s = andThen (runSteps j s) (runSteps k) := by
  induction j generalizing s with
  | zero => simp
  | succ j ih =>
    rw [Nat.add_right_comm, runSteps_succ, runSteps_succ, andThen_assoc]
    cases step s <;> simp [ih]

/-- A property that every step keeps holds at the end of every run. -/
theorem runSteps_keeps {P : State → Prop} (each : ∀ s t, P s → step s = .next t → P t) {k : Nat} {s t : State}
    (hs : P s) (h : runSteps k s = .next t) : P t := by
  induction k generalizing s with
  | zero => cases h; exact hs
  | succ k ih =>
    obtain ⟨m, hm, hrest⟩ := andThen_eq_next h
    exact ih (each s m hs hm) hrest

theorem core_run_succ (k : Nat) (s : State) :
    Host.Core.run Sys2Proof.core (k + 1) s = andThen (step s) (Host.Core.run Sys2Proof.core k) := by
  cases h : step s <;> simp only [Host.Core.run, show Sys2Proof.core.step s = step s from rfl, h] <;> rfl

/-- The runs of this file are the host's runs of `core`. -/
theorem runSteps_eq_core_run (k : Nat) (s : State) : runSteps k s = Host.Core.run Sys2Proof.core k s := by
  induction k generalizing s with
  | zero => rfl
  | succ k ih =>
    rw [runSteps_succ, core_run_succ]
    cases step s with
    | next m => exact ih m
    | fault r => rfl
    | refused r => rfl

end Sys2Proof.Safety
end

