-- ==== Sys2Proof/Laws/PerInstr.lean ====
section
/-! SUPPORT. The family Row: the encoder's vector of every operation matches that operation's row of the opcode table. -/

namespace Sys2Proof.Laws.Row

/-- The encoded operation matches its row. -/
def Statement (i : Instr) : Prop := i.row.matches (encode i) = true

theorem reset : Statement .reset := rfl
theorem refresh : Statement .refresh := rfl
theorem tick (sw : BitVec 2) : Statement (.tick sw) := by revert sw; unfold Statement; decide
theorem waitcheck : Statement .waitcheck := rfl
theorem commitstep : Statement .commitstep := rfl
theorem nop : Statement .nop := rfl
theorem classify (ch : BitVec 1) : Statement (.classify ch) := by revert ch; unfold Statement; decide
theorem delay (n : Byte) : Statement (.delay n) := by revert n; unfold Statement; decide
theorem rdtick : Statement .rdtick := rfl
theorem wrpend (slot : BitVec 2) (v : Byte) : Statement (.wrpend slot v) := by
  revert slot v; unfold Statement; decide
theorem commit : Statement .commit := rfl
theorem setdim (d : Byte) : Statement (.setdim d) := by revert d; unfold Statement; decide
theorem reserved7 : Statement .reserved7 := rfl
theorem reserved8F (op : BitVec 3) : Statement (.reserved8F op) := by revert op; unfold Statement; decide

end Sys2Proof.Laws.Row
end

