-- ==== Sys2Proof/Tests/Slice0.lean ====
section
/-! SUPPORT. The model's own tests: ill-formed terms refused, words written out from the spec's encodings, single steps of
`95_test_vectors.md` (each named after its vector), and a witness for every statement that has hypotheses. -/

namespace Sys2Proof.Tests

open Sys2Proof.Machine Sys2Proof.Safety

/-- The next state of an outcome, if it is one. -/
def nextOf : Host.Outcome State Fault Refusal → Option State
  | .next s => some s
  | .fault _ => none
  | .refused _ => none

/-- The state after one instant with the given stimulus vector. -/
def after (v : StimVec) (s : State) : Option State := nextOf (step (withTrace [v] s))

/-- The output vector of that instant. -/
def outOf (v : StimVec) (s : State) : Option OutVec := (after v s).map outVector

/-! ### WellFormed smoke tests: one ill-formed term for each check -/

theorem test_wf_hardware : Config.hardware.wf = true := by decide
theorem test_wf_window_zero : { Config.hardware with debWin := 0 }.wf = false := by decide
theorem test_wf_window_wide : { Config.hardware with debWin := 9 }.wf = false := by decide
theorem test_wf_rebase_up : { Config.hardware with rebaseTo := 251 }.wf = false := by decide
theorem test_wf_divisor_zero : { Config.hardware with dimMin := 0 }.wf = false := by decide
theorem test_wf_divisor_reset : { Config.hardware with dimReset := 3 }.wf = false := by decide
theorem test_wf_decimal_point : { Config.hardware with dpBit := 5 }.wf = false := by decide
theorem test_wf_rotation : { Config.hardware with rotAmt := 6 }.wf = false := by decide
theorem test_wf_instr_internal : Instr.wf .waitcheck = false ∧ Instr.wf .commitstep = false := by decide
theorem test_wf_item_sw : TraceItem.wf (.sw 2 0) = false ∧ TraceItem.wf (.sw 0 2) = false := by decide
theorem test_wf_item_classify : TraceItem.wf (.classify 2) = false := by decide
theorem test_wf_item_delay : TraceItem.wf (.delay 256) = false := by decide
theorem test_wf_item_wrpend : TraceItem.wf (.wrpend 4 0) = false ∧ TraceItem.wf (.wrpend 0 256) = false := by decide
theorem test_wf_item_setdim : TraceItem.wf (.setdim 256) = false := by decide
theorem test_wf_line_two_commands : TraceLine.wf [.nop, .commit] = false := by decide
theorem test_wf_line_two_sw : TraceLine.wf [.tick, .sw 1 0, .sw 0 1] = false := by decide
theorem test_wf_line_idle_strobe : TraceLine.wf [.idle, .refresh] = false := by decide
theorem test_wf_line_operand : TraceLine.wf [.tick, .delay 256] = false := by decide
theorem test_wf_stmt_line : TraceStmt.wf (.line [.nop, .nop]) = false := by decide
theorem test_wf_stmt_rep : TraceStmt.wf (.rep 2 [[.nop, .nop]]) = false := by decide
theorem test_wf_stmt_ticks : TraceStmt.wf (.ticks 3 2 0) = false := by decide
theorem test_wf_stmt_press : TraceStmt.wf (.press 2 5) = false := by decide
theorem test_wf_stmt_load : TraceStmt.wf (.load 0 0 256 0) = false := by decide

/-! ### Decoding: each constructor from a word written out from `30_encoding.md` R55, R56, R58 -/

theorem test_decode_reset : decode 0b1_0_0_11_0_0000000000000000 = [.reset] := by decide
theorem test_decode_refresh : decode 0b0_1_0_11_0_0000000000000000 = [.refresh, .commitstep] := by decide
theorem test_decode_tick : decode 0b0_0_1_10_0_0000000000000000 = [.tick 0b10, .waitcheck, .commitstep] := by decide
theorem test_decode_waitcheck : selected .wait 0b0_0_1_11_0_0000000000000000 = [.tick 0b11, .waitcheck] := by decide
theorem test_decode_commitstep : selected .commit 0b0_0_0_11_0_0000000000000000 = [.commitstep] := by decide
theorem test_decode_nop : selected .idle 0b0_0_0_11_1_0000_0000_00000000 = [.nop] := by decide
theorem test_decode_classify : selected .idle 0b0_0_0_11_1_0001_0001_00000000 = [.classify 1] := by decide
theorem test_decode_delay : selected .idle 0b0_0_0_11_1_0010_0000_00001010 = [.delay 10] := by decide
theorem test_decode_rdtick : selected .idle 0b0_0_0_11_1_0011_0000_00000000 = [.rdtick] := by decide
theorem test_decode_wrpend : selected .idle 0b0_0_0_11_1_0100_0010_10000110 = [.wrpend 2 0x86] := by decide
theorem test_decode_commit : selected .idle 0b0_0_0_11_1_0101_0000_00000000 = [.commit] := by decide
theorem test_decode_setdim : selected .idle 0b0_0_0_11_1_0110_0000_10111110 = [.setdim 190] := by decide
theorem test_decode_reserved7 : selected .idle 0b0_0_0_11_1_0111_0000_00000000 = [.reserved7] := by decide
theorem test_decode_reserved8F : selected .idle 0b0_0_0_11_1_1111_0001_00100011 = [.reserved8F 7] := by decide

/-- `93_implementation_defined.md` U12 and vectors CL10, CL11, B8: ignored operand bits. -/
theorem test_decode_ignored : decodeCmd 0x1E55 = .classify 0 ∧ decodeCmd 0x1F00 = .classify 1 ∧
    decodeCmd 0x4FA5 = .wrpend 3 0xA5 ∧ decodeCmd 0x6F02 = .setdim 2 := by decide

/-- A number of more than 22 bits is rejected by name. -/
theorem test_decode_too_wide : (match decodeNat 0x400000 with | .error e => some e | .ok _ => none) = some .bitsAbove21 ∧
    decodeTableWord 24 0x400000 = none := by decide

/-- The opcode table's own match columns (WAITCHECK's is TICK's, log entry 12). -/
theorem test_table_words : decodeTableWord 24 0x200000 = some .reset ∧ decodeTableWord 24 0x100000 = some .refresh ∧
    decodeTableWord 24 0x080000 = some (.tick 0) ∧ decodeTableWord 24 0x000000 = some .commitstep ∧
    decodeTableWord 24 0x010000 = some .nop ∧ decodeTableWord 24 0x018000 = some (.reserved8F 0) := by decide

/-- The words of R65's examples, encoded. -/
theorem test_encode_words : encode .reset = 0x260000 ∧ encode .refresh = 0x160000 ∧ encode (.tick 0b10) = 0x0C0000 ∧
    encode (.classify 0) = 0x071000 ∧ encode (.wrpend 2 0x86) = 0x074286 ∧ encode (.setdim 190) = 0x0760BE := by decide

/-- R65's example line, and the assembly of LOAD in program P1. -/
theorem test_assemble_line :
    assembleLine [.refresh, .tick, .sw 0 0, .wrpend 2 0x5B] = some 0x19425B ∧ assembleLine [.idle] = some 0x060000 := by
  decide
theorem test_assemble_load : assemble [.load 0x3F 0x06 0x86 0x5B] =
    some [0x07403F, 0x074106, 0x074286, 0x07435B, 0x075000, 0x060000, 0x060000, 0x060000, 0x060000] := by decide
theorem test_assemble_press : assemble [.press 0 2, .press 1 1, .release 1] =
    some [0x0C0000, 0x0C0000, 0x0A0000, 0x0E0000] := by decide
theorem test_assemble_refuses : assemble [.line [.nop, .nop]] = none := by decide

/-! ### Single steps: vectors of `95_test_vectors.md` Part 2 -/

/-- The state of Y1. -/
def busyState : State :=
  { State.reset with
    tickCounter := 9, history := ⟨0, 0⟩, pressCounter := ⟨9, 9⟩, cursor := 2, frameCounter := 70, dimDivisor := 190
    committed := ⟨1, 2, 3, 4⟩, pending := ⟨5, 6, 7, 8⟩, seg := 0x77, digEn := 0b0100, hs := .wait, waitTarget := 33
    rspHold := 2, commitIdx := 2 }

theorem test_reset_Y1 : after 0x395000 busyState = some State.reset := by decide
theorem test_reset_Y1_out : outOf 0x395000 busyState = some 0x001000 := by decide

theorem test_refresh_RF2 : (after 0x160000 { State.reset with
    frameCounter := 104, dimDivisor := 100, committed := ⟨0x77, 0, 0, 0⟩, seg := 0x5B, digEn := 0b1000 }).map
      (fun t => (t.seg, t.digEn, t.cursor, t.frameCounter)) = some (0x5B, 0b0000, 1, 105) := by decide
theorem test_refresh_RF4 : (after 0x160000 { State.reset with
    frameCounter := 65535, dimDivisor := 5, cursor := 3, committed := ⟨1, 2, 3, 4⟩, seg := 0x09 }).map
      (fun t => (t.seg, t.digEn, t.cursor, t.frameCounter)) = some (0x04, 0b1000, 0, 0) := by decide

theorem test_tick_T4 : (after 0x080000 { State.reset with
    history := ⟨0, 0⟩, pressCounter := ⟨250, 150⟩, tickCounter := 255 }).map
      (fun t => (t.pressCounter, t.tickCounter)) = some (⟨100, 151⟩, 0) := by decide
theorem test_tick_T9 : (after 0x0A0000 { State.reset with
    history := ⟨0, 0⟩, pressCounter := ⟨200, 3⟩, tickCounter := 9 }).map
      (fun t => (t.history, t.pressCounter, t.tickCounter)) = some (⟨0x01, 0x00⟩, ⟨0, 4⟩, 10) := by decide

theorem test_waitcheck_T10 : outOf 0x0E0000 { State.reset with
    hs := .wait, waitTarget := 5, rspHold := 2, tickCounter := 3 } = some 0x000000 := by decide
theorem test_waitcheck_T13 : (after 0x0F40FF { State.reset with
    hs := .wait, waitTarget := 4, rspHold := 2, tickCounter := 3 }).map
      (fun t => (t.hs, t.pending, outVector t)) = some (.idle, ⟨0, 0, 0, 0⟩, 0x205000) := by decide

theorem test_commitstep_B3 : (after 0x060000 { State.reset with
    pending := ⟨0x3F, 0x06, 0x86, 0x4F⟩, hs := .commit, commitIdx := 2 }).map
      (fun t => (t.committed, t.commitIdx, t.hs)) = some (⟨0, 0, 0xB0, 0⟩, 3, .commit) := by decide
theorem test_commitstep_B4 : (after 0x060000 { State.reset with
    pending := ⟨0x3F, 0x06, 0x86, 0x4F⟩, committed := ⟨0x3F, 0x06, 0xB0, 0⟩, hs := .commit, commitIdx := 3 }).map
      (fun t => (t.committed, t.commitIdx, outVector t)) = some (⟨0x3F, 0x06, 0xB0, 0x4F⟩, 3, 0x201000) := by decide

theorem test_nop_Y3 : outOf 0x070FFF State.reset = some 0x201000 := by decide
theorem test_nop_Y7 : outOf 0x070000 { State.reset with hs := .wait, waitTarget := 9, tickCounter := 1 } = some 0 := by
  decide

theorem test_classify_CL7 : (after 0x0D1000 { State.reset with
    pressCounter := ⟨150, 0⟩, history := ⟨0x00, 0xFF⟩, tickCounter := 10 }).map
      (fun t => (t.pressCounter.ch0, t.waitTarget, t.rspHold, t.hs)) = some (151, 0x29, 0x02, .wait) := by decide
theorem test_classify_CL5 : (after 0x071000 { State.reset with
    pressCounter := ⟨1, 250⟩, tickCounter := 0xF0 }).map (fun t => (t.waitTarget, t.rspHold)) = some (0x2C, 0x01) := by
  decide

theorem test_delay_DL1 : (after 0x07200A { State.reset with tickCounter := 250 }).map
    (fun t => (t.hs, t.waitTarget, t.rspHold, outVector t)) = some (.wait, 4, 0, 0x000000) := by decide
theorem test_delay_DL2 : outOf 0x072000 { State.reset with tickCounter := 250 } = some 0x201000 := by decide

theorem test_rdtick_DL4 : outOf 0x073000 { State.reset with tickCounter := 0x2A } = some 0x255000 := by decide
theorem test_rdtick_DL5 : outOf 0x0F3000 { State.reset with tickCounter := 0xFF } = some 0x201000 := by decide

theorem test_wrpend_B1 : (after 0x074286 { State.reset with pending := ⟨1, 2, 3, 4⟩ }).map
    (fun t => (t.pending, t.committed, outVector t)) = some (⟨1, 2, 0x86, 4⟩, ⟨0, 0, 0, 0⟩, 0x201000) := by decide
theorem test_wrpend_B8 : (after 0x074FA5 State.reset).map (fun t => t.pending) = some ⟨0, 0, 0, 0xA5⟩ := by decide

theorem test_commit_B2 : (after 0x075000 State.reset).map
    (fun t => (t.hs, t.commitIdx, outVector t)) = some (.commit, 0, 0x000000) := by decide
theorem test_commit_B7 : (after 0x175000 { State.reset with
    cfg := { Config.hardware with commitAtomic := true }, pending := ⟨0x3F, 0x06, 0x86, 0x4F⟩
    committed := ⟨0x11, 0x22, 0x33, 0x44⟩, cursor := 2, frameCounter := 2 }).map
      (fun t => (t.committed, t.hs, outVector t)) = some (⟨0x3F, 0x06, 0xB0, 0x4F⟩, .idle, 0x201334) := by decide

theorem test_setdim_SD3 : (after 0x076003 { State.reset with dimDivisor := 77 }).map (fun t => t.dimDivisor) = some 4 := by
  decide
theorem test_setdim_SD8 : (after 0x0760FF { State.reset with dimDivisor := 77 }).map (fun t => t.dimDivisor) = some 255 := by
  decide

theorem test_reserved7_Y4 : outOf 0x077000 State.reset = some 0x201000 := by decide
theorem test_reserved8F_Y5 : outOf 0x07F123 State.reset = some 0x201000 := by decide

/-- B6: REFRESH precedes the COMMITSTEP of its instant and shows the old slot 0. -/
theorem test_order_B6 : (after 0x160000 { State.reset with
    pending := ⟨0x3F, 0x06, 0x86, 0x4F⟩, committed := ⟨0x11, 0x22, 0x33, 0x44⟩, hs := .commit }).map
      (fun t => (t.committed.slot0, t.commitIdx, outVector t)) = some (0x3F, 1, 0x000111) := by decide

/-- The rotation's vectors of section 2.5. -/
theorem test_rot_vectors : rot Config.hardware 0x86 = 0xB0 ∧ rot Config.hardware 0xE5 = 0xEC ∧
    rot Config.hardware 0x4F = 0x79 ∧ rot Config.hardware 0x7D = 0x6F ∧ rot Config.hardware 0x5B = 0x5B := by decide

/-- U10: in the unreachable host state 3 no host-port action is taken and the periodic agents run. -/
theorem test_unused_host_state : (after 0x1B0000 { State.reset with hs := .unused }).map
    (fun t => (t.hs, t.tickCounter, t.frameCounter, t.rsp)) = some (.unused, 1, 1, none) := by decide

/-- The host's way of placing a table word, from reset: a command, and COMMITSTEP's all-zero word. -/
theorem test_fetch_word : (nextOf (step (State.reset.withFetchWord 24 0x012005))).map (fun t => t.waitTarget) = some 5 ∧
    (nextOf (step (State.reset.withFetchWord 24 0x000000))).map (fun t => t.commitIdx) = some 1 := by decide

/-! ### Witnesses: states and operands that meet the hypotheses of the statements of Certificates/Slice0 -/

theorem witness_ResetWritesTheResetTable : busyState.cfg = Config.hardware := by decide
theorem witness_ResetAbandonsTheCommandInProgress : (withTrace [0x395000] busyState).trace = (0x395000 : StimVec) :: [] ∧
    (0x395000 : StimVec).getLsbD 21 = true := by decide
theorem witness_IgnoredFieldsAreIgnored_op : (0x0 : BitVec 4) = 0x0 ∧ (0x7 : BitVec 4) ≤ 0x7 ∧ (0x7 : BitVec 4) ≤ 0xF := by
  decide
theorem witness_IgnoredFieldsAreIgnored_classify : (0xE : BitVec 4).getLsbD 0 = (0x0 : BitVec 4).getLsbD 0 := by decide
theorem witness_IgnoredFieldsAreIgnored_wrpend :
    (0xF : BitVec 4).extractLsb' 0 2 = (0x3 : BitVec 4).extractLsb' 0 2 := by decide
theorem witness_IgnoredFieldsAreIgnored_sw : (0x060000 : StimVec) &&& 0x39FFFF = (0x000000 : StimVec) &&& 0x39FFFF ∧
    (0x060000 : StimVec).getLsbD 19 = false := by decide
theorem witness_IgnoredFieldsAreIgnored_cmd : (0x060123 : StimVec) &&& 0x3F0000 = (0x060000 : StimVec) &&& 0x3F0000 ∧
    (0x060123 : StimVec).getLsbD 16 = false := by decide
theorem witness_IgnoredFieldsAreIgnored_busy : HostState.wait ≠ .idle ∧
    (0x0F40FF : StimVec) &&& 0x3E0000 = (0x0E0000 : StimVec) &&& 0x3E0000 := by decide
theorem witness_EncodedOperationsDecodeBack : Instr.wf (.reserved8F 7) = true ∧ Instr.wf (.delay 255) = true := by decide
theorem witness_TableRowsMatchTheDecoder : Instr.wrpend 2 0x5B ∈ decode 0x19425B ∧ Instr.row .waitcheck ∈ opTable ∧
    (0x19425B : StimVec) &&& (Instr.row .waitcheck).mask = (Instr.row .waitcheck).pattern := by decide
theorem witness_CommandLinesAssemble : TraceItem.wf (.wrpend 3 255) = true ∧
    itemCommand (.wrpend 3 255) = some (.wrpend 3 255) := by decide
theorem witness_StepRunsTheSelectedOperation : (withTrace [0x07200A] State.reset).trace = (0x07200A : StimVec) :: [] ∧
    selected (withTrace [0x07200A] State.reset).hs 0x07200A = [.delay 10] := by decide
theorem witness_StepFollowsThePhaseOrder : (withTrace [0x19425B] State.reset).trace = (0x19425B : StimVec) :: [] := by
  decide
theorem witness_AtMostOneHostPortAction : Instr.classify 1 ∈ selected .idle 0x0B1100 ∧
    Instr.waitcheck ∈ selected .wait 0x0B1100 ∧ Instr.commitstep ∈ selected .commit 0x0B1100 ∧
    Instr.reset ∈ selected .wait 0x395000 := by decide
/-- One next state for the statements that speak of any step. -/
theorem witness_step_next : (after 0x19425B State.reset).isSome = true := by decide
theorem witness_ResponsesMarkCompletion : (nextStim (withTrace [0x073000] State.reset)).getLsbD 21 = false ∧
    (after 0x073000 State.reset).map (fun t => t.rsp.isSome) = some true := by decide
theorem witness_EveryOperationCompletes : State.reset.dimDivisor ≠ 0 ∧ { State.reset with dimDivisor := 0 }.dimDivisor = 0 := by
  decide
theorem witness_RefreshServesOneDigit : State.reset.cfg = Config.hardware ∧ State.reset.dimDivisor ≠ 0 := by decide
theorem witness_RefreshLeavesTheRestAlone : (nextOf (exec .refresh State.reset)).isSome = true := by decide
theorem witness_SetdimClampsTheDivisor : State.reset.cfg = Config.hardware ∧ State.reset.hs = .idle := by decide
theorem witness_DutyCycleIsFourInD : { State.reset with dimDivisor := 255, frameCounter := 65281 }.cfg = Config.hardware ∧
    4 ≤ { State.reset with dimDivisor := 255, frameCounter := 65281 }.dimDivisor.toNat ∧
    { State.reset with dimDivisor := 255, frameCounter := 65281 }.frameCounter.toNat
      + { State.reset with dimDivisor := 255, frameCounter := 65281 }.dimDivisor.toNat ≤ 2 ^ 16 := by decide
theorem witness_RefreshesServeDigitsInTurn : State.reset.cfg = Config.hardware ∧ State.reset.dimDivisor ≠ 0 ∧
    (State.reset.frameCounter.toNat + 5) % 2 ^ 16 % State.reset.dimDivisor.toNat < 4 := by decide
theorem witness_TickSamplesBothChannels : State.reset.cfg = Config.hardware := by decide
theorem witness_TickLeavesTheRestAlone : (nextOf (exec (.tick 0b10) State.reset)).isSome = true := by decide
theorem witness_ClosedRunLaw : State.reset.cfg = Config.hardware ∧ readCnt State.reset 0 = 0 ∧ 0 < 4 ∧
    (readHist State.reset 0).getLsbD 0 = true ∧ (∀ sw ∈ ([0b10, 0b10] : List (BitVec 2)), sw.getLsbD 0 = false) := by
  decide
/-- The most recent open sample at the last position of the window. -/
theorem witness_ClosedRunLaw_last_position :
    readCnt { State.reset with history := ⟨0xF8, 0xF8⟩ } 1 = 0 ∧ (readHist { State.reset with history := ⟨0xF8, 0xF8⟩ } 1).getLsbD 3 = true ∧
    (∀ q, q < 3 → (readHist { State.reset with history := ⟨0xF8, 0xF8⟩ } 1).getLsbD q = false) := by decide
theorem witness_ReleaseClearsTheCounter : State.reset.cfg = Config.hardware ∧ (0b01 : BitVec 2).getLsbD 0 = true ∧
    ([0, 0, 0] : List (BitVec 2)).length ≤ 3 := by decide
/-- A channel just rebased. -/
def heldState : State := { State.reset with history := ⟨0x00, 0xFF⟩, pressCounter := ⟨100, 0⟩ }
theorem witness_HeldButtonAlternates : heldState.cfg = Config.hardware ∧ readCnt heldState 0 = 100 ∧
    (readHist heldState 0).toNat % 8 = 0 ∧ (∀ sw ∈ ([0b10] : List (BitVec 2)), sw.getLsbD 0 = false) := by decide
theorem witness_ChannelsAreIndependent : heldState.cfg = State.reset.cfg ∧ readHist heldState 1 = readHist State.reset 1 ∧
    readCnt heldState 1 = readCnt State.reset 1 ∧ (0b10 : BitVec 2).getLsbD 1 = (0b11 : BitVec 2).getLsbD 1 := by decide
theorem witness_HistoryHighBitsAreUnobservable : busyState.cfg = Config.hardware ∧
    (readHist { busyState with history := ⟨0x50, 0⟩ } 0).extractLsb' 0 4 = (readHist busyState 0).extractLsb' 0 4 ∧
    readCnt { busyState with history := ⟨0x50, 0⟩ } 0 = readCnt busyState 0 := by decide
/-- For DelayAnswersOrWaits, RdtickAnswersTheCounter, ClassifyAnswersOrGuards, CommitBeginsTheCopy, NopOnlyAnswers and
ReservedOpcodesOnlyAnswer. -/
theorem witness_idle_host : State.reset.hs = .idle ∧ State.reset.cfg.commitAtomic = false ∧ State.reset.cfg.rotSlot = 2 := by
  decide
theorem witness_WaitcheckEndsAtTheTarget : busyState.hs = .wait := by decide
theorem witness_WaitLastsExactlyNTicks_on : ∃ (s : State) (n : Nat) (lines rest : List StimVec),
    1 ≤ n ∧ n ≤ 256 ∧ s.hs = .wait ∧ s.dimDivisor ≠ 0 ∧ s.waitTarget = s.tickCounter + BitVec.ofNat 8 n ∧
    s.trace = lines ++ rest ∧ (∀ v ∈ lines, v.getLsbD 21 = false) ∧ lines.countP (fun v => v.getLsbD 19) < n :=
  ⟨withTrace [0x0E0000, 0x0F40FF, 0x060000] busyState, 24, [0x0E0000, 0x0F40FF], [0x060000],
    by decide, by decide, rfl, by decide, by decide, rfl, by simp, by decide⟩
theorem witness_WaitLastsExactlyNTicks_ends :
    ∃ (s : State) (n : Nat) (lines rest before : List StimVec) (v : StimVec),
    1 ≤ n ∧ n ≤ 256 ∧ s.hs = .wait ∧ s.dimDivisor ≠ 0 ∧ s.waitTarget = s.tickCounter + BitVec.ofNat 8 n ∧
    s.trace = lines ++ rest ∧ (∀ v ∈ lines, v.getLsbD 21 = false) ∧ lines = before ++ [v] ∧ v.getLsbD 19 = true ∧
    before.countP (fun v => v.getLsbD 19) + 1 = n :=
  ⟨withTrace [0x060000, 0x0E0000] { busyState with waitTarget := 10 }, 1, [0x060000, 0x0E0000], [], [0x060000], 0x0E0000,
    by decide, by decide, rfl, by decide, by decide, rfl, by simp, rfl, by decide, by decide⟩
theorem witness_WaitLastsExactlyNTicks_longest : { busyState with waitTarget := 9 }.waitTarget
      = { busyState with waitTarget := 9 }.tickCounter + BitVec.ofNat 8 256 := by decide
theorem witness_ClassificationThresholds : (151 : Byte).toNat > 150 ∧ (150 : Byte).toNat ≤ 150 ∧ 1 ≤ (1 : Byte).toNat ∧
    (0 : Byte).toNat = 0 := by decide
theorem witness_RotationFormula : Config.hardware.rotAmt = 3 := by decide
theorem witness_RotationProperties : (0xC0 : Byte).extractLsb' 0 6 = 0 := by decide
theorem witness_WrpendStoresOneSlot : State.reset.hs = .idle ∧ (3 : BitVec 2) ≠ 2 := by decide
theorem witness_CommitstepCopiesOneSlot : { State.reset with hs := .commit, commitIdx := 2 }.hs = .commit ∧
    State.reset.cfg.rotSlot = 2 ∧ State.reset.cfg.rotAmt = 3 := by decide
theorem witness_AtomicCommitCopiesAllSlots :
    { State.reset with cfg := { Config.hardware with commitAtomic := true } }.hs = .idle ∧
    { State.reset with cfg := { Config.hardware with commitAtomic := true } }.cfg.commitAtomic = true ∧
    { State.reset with cfg := { Config.hardware with commitAtomic := true } }.cfg.rotSlot = 2 := by decide
theorem witness_CommitPostcondition : ∃ (s : State) (v : StimVec) (lines rest : List StimVec),
    s.hs = .idle ∧ s.cfg.commitAtomic = false ∧ s.cfg.rotSlot = 2 ∧ s.dimDivisor ≠ 0 ∧
    s.trace = v :: lines ++ rest ∧ v.getLsbD 21 = false ∧ v.getLsbD 16 = true ∧ v.extractLsb' 12 4 = 5#4 ∧
    lines.length ≤ 4 ∧ (∀ w ∈ lines, w.getLsbD 21 = false) :=
  ⟨withTrace [0x075000, 0x060000, 0x160000, 0x0E0000, 0x0740EE] State.reset, 0x075000,
    [0x060000, 0x160000, 0x0E0000, 0x0740EE], [],
    rfl, rfl, rfl, by decide, rfl, by decide, by decide, by decide, by decide, by simp⟩
theorem witness_BusyCommandsAreIgnored : Instr.isCommand (.wrpend 0 0xFF) = true ∧ busyState.hs ≠ .idle ∧
    (withTrace [0x0740EE] busyState).trace = (0x0740EE : StimVec) :: [] := by decide
theorem witness_SingleWriterPerField : Instr.nop ≠ .reset ∧ (∀ sw, Instr.nop ≠ .tick sw) ∧ Instr.nop ≠ .refresh ∧
    (nextOf (exec .nop State.reset)).isSome = true := by decide
theorem witness_HostOperationFrames : (nextOf (exec (.wrpend 1 2) State.reset)).isSome = true ∧
    (nextOf (exec .commitstep { State.reset with hs := .commit })).isSome = true := by decide
theorem witness_RefreshSeesTheOldValues : (withTrace [0x176004] State.reset).trace = (0x176004 : StimVec) :: [] ∧
    (0x176004 : StimVec).getLsbD 21 = false ∧ (0x176004 : StimVec).getLsbD 20 = true ∧
    (after 0x176004 State.reset).isSome = true := by decide
theorem witness_CommandsSeeTheTick_rdtick : (withTrace [0x0F3000] State.reset).trace = (0x0F3000 : StimVec) :: [] ∧
    State.reset.hs = .idle ∧ State.reset.dimDivisor ≠ 0 ∧ (0x0F3000 : StimVec).getLsbD 21 = false ∧
    (0x0F3000 : StimVec).getLsbD 19 = true ∧ (0x0F3000 : StimVec).getLsbD 16 = true ∧
    (0x0F3000 : StimVec).extractLsb' 12 4 = 3#4 := by decide
theorem witness_CommandsSeeTheTick_delay : (0x0F2002 : StimVec).extractLsb' 12 4 = 2#4 ∧
    (0x0F2002 : StimVec).extractLsb' 0 8 ≠ 0#8 := by decide
theorem witness_CommandsSeeTheTick_classify : (0x0D1000 : StimVec).extractLsb' 12 4 = 1#4 ∧
    (nextOf (exec (.tick 0b10) { State.reset with history := ⟨0, 0xFF⟩, pressCounter := ⟨150, 0⟩ })).map
      (fun u => guardTicks u.cfg (classify u.cfg (readCnt u ((0x0D1000 : StimVec).extractLsb' 8 1)))) = some 30 := by
  decide
theorem witness_TimeBaseIsIndependentOfTheHost :
    (after 0x0D1000 heldState).isSome = true ∧ (after 0x1C40EE { heldState with hs := .wait }).isSome = true ∧
    (([0x0D1000] : List StimVec).take 1).map
        (fun v => (v.getLsbD 21, v.getLsbD 19, if v.getLsbD 19 then v.extractLsb' 17 2 else 0))
      = (([0x1C40EE] : List StimVec).take 1).map
        (fun v => (v.getLsbD 21, v.getLsbD 19, if v.getLsbD 19 then v.extractLsb' 17 2 else 0)) := by decide
theorem witness_EnabledDigitShowsItsSlot : (nextStim (withTrace [0x160000] State.reset)).getLsbD 21 = false ∧
    (nextStim (withTrace [0x160000] State.reset)).getLsbD 20 = true ∧
    (after 0x160000 State.reset).map (fun t => t.digEn.getLsbD 0) = some true := by decide
/-- A state other than the reset state that meets the invariant. -/
theorem witness_StepKeepsTheInvariant : Inv (withTrace [0x19425B] heldState) where
  config := by decide
  counterBound := by decide
  openMeansZero := by decide
  divisorBound := by decide
  oneDigitAtMost := by decide
  cursorFollows := by decide
  hostStateLegal := by decide
  atomicNeverSteps := by decide
theorem witness_CommandsAreAnsweredExactlyOnce : (tallyRun 2 (withTrace [0x072000, 0x07200A] State.reset)).map
    (fun r => (r.1, inFlight r.2)) = some (⟨2, 1, 0⟩, true) := by decide

/-- The widths of R6 and R8 are those of the registers: each register has the type that its parameter gives. -/
theorem test_register_widths_are_the_parameters (s : State) (ch : BitVec 1) (i : BitVec 2) :
    (readHist s ch : BitVec Config.histW) = readHist s ch ∧ (readCnt s ch : BitVec Config.cntW) = readCnt s ch ∧
    (s.tickCounter : BitVec Config.tickW) = s.tickCounter ∧ (s.frameCounter : BitVec Config.frameW) = s.frameCounter ∧
    (s.dimDivisor : BitVec Config.dimW) = s.dimDivisor ∧ (readComm s i : BitVec Config.slotW) = readComm s i ∧
    (s.seg : BitVec Config.slotW) = s.seg ∧ (s.digEn : BitVec Config.nDig) = s.digEn ∧
    Stim.quiet.sw = (Config.opened ++ Config.opened : BitVec Config.nCh) := by
  refine ⟨rfl, rfl, rfl, rfl, rfl, rfl, rfl, rfl, by decide⟩

end Sys2Proof.Tests
end

