-- ==== Sys2Proof/Proofs/Scope.lean ====
section
/-! PROOF. The parameter tables of `00_scope.md`. -/

namespace Sys2Proof.Proofs

/-- Settles O1: every parameter is defined as the value column's entry, so each table is a closed conjunction that evaluates.
The cases are the tables of R6 (debounce and tick), R7 (classifier) and R8 (display). -/
theorem hardwareTakesTheParameterValues : Obligations.HardwareTakesTheParameterValues := by
  unfold Obligations.HardwareTakesTheParameterValues
  refine ⟨?debounce, ?classifier, ?display⟩
  case debounce => decide
  case classifier => decide
  case display => decide

end Sys2Proof.Proofs
end

