-- ==== Sys2Proof/Proofs/State.lean ====
section
/-! PROOF. The reset table of `10_state.md`. -/

namespace Sys2Proof.Proofs
open Sys2Proof.Machine

/-- A channel array filled with one value reads that value at every channel. -/
theorem channelArray_get_of_uniform (v : Byte) (ch : BitVec 1) : (ChannelArray.mk v v).get ch = v := by
  unfold ChannelArray.get
  split <;> rfl

/-- A slot array filled with one value reads that value at every slot. -/
theorem slotArray_get_of_uniform (v : Byte) (i : BitVec 2) : (SlotArray.mk v v v v).get i = v := by
  unfold SlotArray.get
  split_ifs <;> rfl

/-- Settles O2: the scalar registers hold R35's values by the definition of `State.reset`; both channel arrays and both
buffers are filled with one value each, so every index reads that value. -/
theorem stateAfterResetIsTheTable : Obligations.StateAfterResetIsTheTable := by
  unfold Obligations.StateAfterResetIsTheTable
  have history (ch : BitVec 1) : readHist State.reset ch = 0xFF := channelArray_get_of_uniform 0xFF ch
  have pressCounter (ch : BitVec 1) : readCnt State.reset ch = 0 := channelArray_get_of_uniform 0 ch
  have committed (i : BitVec 2) : readComm State.reset i = 0x00 := slotArray_get_of_uniform 0x00 i
  have pending (i : BitVec 2) : readPend State.reset i = 0x00 := slotArray_get_of_uniform 0x00 i
  exact ⟨rfl, history 0, history 1, pressCounter 0, pressCounter 1, rfl, rfl, rfl, committed, pending,
    rfl, rfl, rfl, rfl, rfl, rfl⟩

end Sys2Proof.Proofs
end

