-- ==== Sys2Proof/Proofs/Encoding.lean ====
section
/-! PROOF. The output vector and the phase order of an instant of `30_encoding.md`. -/

namespace Sys2Proof.Proofs
open Sys2Proof.Machine

/-! ### The output vector -/

/-- Settles O15: the output vector is the concatenation of R63's fields, so each field is found by dropping the parts below
it and then the parts above it. -/
theorem outputVectorLayout : Obligations.OutputVectorLayout := by
  unfold Obligations.OutputVectorLayout outVector
  intro s
  refine ⟨?rspValid, ?rsp, ?ready, ?seg, ?digEn⟩
  case rspValid =>
    rw [BitVec.getLsbD_append, BitVec.getLsbD_append, BitVec.getLsbD_append, BitVec.getLsbD_append]
    simp
  case rsp =>
    rw [BitVec.extractLsb'_append_eq_of_le (by decide), BitVec.extractLsb'_append_eq_of_le (by decide),
      BitVec.extractLsb'_append_eq_of_le (by decide), BitVec.extractLsb'_append_eq_right]
    cases s.rsp <;> rfl
  case ready =>
    rw [BitVec.getLsbD_append, BitVec.getLsbD_append, BitVec.getLsbD_append]
    simp [ready, Bool.beq_eq_decide_eq]
  case seg => rw [BitVec.extractLsb'_append_eq_of_le (by decide), BitVec.extractLsb'_append_eq_right]
  case digEn => exact BitVec.extractLsb'_append_eq_right

/-! ### The phases of an instant -/

/-- A phase of at most one operation. -/
theorem runOps_if_singleton (c : Prop) [Decidable c] (i : Instr) (s : State) :
    runOps (if c then [i] else []) s = if c then exec i s else .next s := by
  split
  · exact runOps_singleton i s
  · exact runOps_nil s

/-- The tick phase of R67: TICK, with WAITCHECK after it if the instant began in WAIT. -/
theorem runOps_tickPhase (asked : Bool) (sw : BitVec 2) (hs0 : HostState) :
    runOps (if asked then .tick sw :: (if hs0 = .wait then [.waitcheck] else []) else []) = fun s =>
      if asked then
        andThen (exec (.tick sw) s) fun s2 => if hs0 = .wait then exec .waitcheck s2 else .next s2
      else .next s := by
  funext s
  cases asked with
  | false => rfl
  | true =>
    simp only [if_true, runOps_cons]
    exact congrArg _ (funext (runOps_if_singleton _ _))

/-- The host phase of R67: an instant that began in IDLE did not begin in COMMIT, so at most one of the two operations
is there. -/
theorem runOps_hostPhase (presented : Bool) (command : Instr) (hs0 : HostState) :
    runOps ((if hs0 = .idle ∧ presented = true then [command] else []) ++ (if hs0 = .commit then [.commitstep] else []))
      = fun s =>
        if hs0 = .idle ∧ presented = true then exec command s
        else if hs0 = .commit then exec .commitstep s
        else .next s := by
  funext s
  by_cases accepted : hs0 = .idle ∧ presented = true
  · have notCommit : hs0 ≠ .commit := by simp [accepted.1]
    simp only [if_pos accepted, if_neg notCommit, List.append_nil, runOps_singleton]
  · simp only [if_neg accepted, List.nil_append, runOps_if_singleton]

/-- Settles O13: a reset line selects RESET alone; any other line selects the operations of the three phases one after
the other, so running them is running each phase on the result of the one before (R67). -/
theorem stepFollowsThePhaseOrder : Obligations.StepFollowsThePhaseOrder := by
  unfold Obligations.StepFollowsThePhaseOrder
  intro s v rest placed
  rw [step_trace v rest s placed]
  cases rst : v.getLsbD 21 with
  | true =>
    rw [selected_rst rst, runOps_singleton]
    rfl
  | false =>
    rw [selected_phases rst, List.append_assoc, runOps_append, runOps_append, runOps_if_singleton, runOps_tickPhase,
      runOps_hostPhase, andThen_assoc]
    rfl

end Sys2Proof.Proofs
end

