-- ==== Sys2Proof/Proofs/DisplayRefresh.lean ====
section
/-! PROOF. REFRESH and SETDIM of `40_display_refresh.md`. -/

namespace Sys2Proof.Proofs
open Sys2Proof.Machine

/-! ### REFRESH -/

/-- A register that advances by one holds the natural successor modulo its range. -/
theorem add_one_eq_ofNat_mod {w : Nat} (x : BitVec w) : x + 1 = BitVec.ofNat w ((x.toNat + 1) % 2 ^ w) := by
  apply BitVec.eq_of_toNat_eq
  simp [BitVec.toNat_add]

/-- With this hardware's LIT_WIN, `lit` says that the dimming phase is below 4 (R30). -/
theorem lit_hardware_iff (frameCounter : Frame) (dimDivisor : Byte) :
    lit Config.hardware frameCounter dimDivisor = true ↔ frameCounter.toNat % dimDivisor.toNat < 4 :=
  decide_eq_true_iff

/-- Settles O20: a non-zero divisor does not fault, so REFRESH serves a digit. Lit, it drives the cursor's digit; not lit,
it blanks the lines and keeps `seg`; either way cursor and frame counter advance (R70). -/
theorem refreshServesOneDigit : Obligations.RefreshServesOneDigit := by
  unfold Obligations.RefreshServesOneDigit
  intro s hardware divisor
  have phase := lit_hardware_iff s.frameCounter s.dimDivisor
  have cursor : s.cursor + 1 = BitVec.ofNat 2 ((s.cursor.toNat + 1) % 4) := add_one_eq_ofNat_mod s.cursor
  have frame := add_one_eq_ofNat_mod s.frameCounter
  rw [← hardware] at phase
  rw [exec_refresh divisor, ← cursor, ← frame]
  obtain ⟨isLit, served⟩ | ⟨notLit, served⟩ := serveDigit_cases s
  · have below := phase.mp isLit
    rw [served, if_pos below, if_pos below]
  · have notBelow := mt phase.mpr (Bool.eq_false_iff.mp notLit)
    rw [served, if_neg notBelow, if_neg notBelow]

/-! ### SETDIM -/

/-- SETDIM on an idle host port stores the clamped divisor and answers 0x00 (R71). -/
theorem exec_setdim_idle {s : State} (d : Byte) (idle : s.hs = .idle) :
    exec (.setdim d) s = .next { s with dimDivisor := clampDivisor s.cfg d, rsp := some 0x00 } :=
  congrArg _ (whenIdle_idle _ idle)

/-- With this hardware's DIM_MIN, the clamp is the maximum with 4 over the naturals (R71). -/
theorem clampDivisor_hardware (d : Byte) : clampDivisor Config.hardware d = BitVec.ofNat 8 (max d.toNat 4) := by
  unfold clampDivisor
  split
  next below =>
    have : d.toNat < 4 := below
    rw [max_eq_right this.le]
    rfl
  next notBelow =>
    have : 4 ≤ d.toNat := not_lt.mp notBelow
    rw [max_eq_left this, BitVec.ofNat_toNat, BitVec.setWidth_eq]

/-- Settles O22: the port is idle, so SETDIM has its effect, and the clamp of this hardware is the maximum with 4. -/
theorem setdimClampsTheDivisor : Obligations.SetdimClampsTheDivisor := by
  unfold Obligations.SetdimClampsTheDivisor
  intro s d hardware idle
  rw [exec_setdim_idle d idle, hardware, clampDivisor_hardware]

end Sys2Proof.Proofs
end

section
/-! PROOF. TICK of `41_debounce_tick.md`. -/

namespace Sys2Proof.Proofs
open Sys2Proof.Machine

/-! ### CHANNEL_UPDATE -/

/-- Shifting in channel `ch`'s sample concatenates bit `sw[ch]` below the history (R78). -/
theorem shiftIn_sampleOf (history : Byte) (sw : BitVec 2) (ch : BitVec 1) :
    shiftIn history (sampleOf sw ch) = history.shiftConcat (sw.getLsbD ch.toNat) := by
  unfold shiftIn sampleOf
  ext i hi
  cases i with
  | zero => simp
  | succ i => simp

/-- The shift over the naturals: the history doubles, the sample is added, and the oldest bit drops out (R78). -/
theorem toNat_shiftIn_sampleOf (history : Byte) (sw : BitVec 2) (ch : BitVec 1) :
    (shiftIn history (sampleOf sw ch)).toNat = (history.toNat * 2 + (sw.getLsbD ch.toNat).toNat) % 2 ^ 8 := by
  rw [shiftIn_sampleOf, BitVec.toNat_shiftConcat, Nat.shiftLeft_eq, pow_one]

/-- With this hardware's DEB_WIN, the window is closed when the low four bits are all 0 (R30). -/
theorem winClosed_hardware_iff (history : Byte) :
    winClosed Config.hardware history = true ↔ history.toNat % 16 = 0 :=
  beq_iff_eq

/-- With this hardware's REBASE_AT and REBASE_TO, a counter that would exceed 250 becomes 100 (R78). -/
theorem toNat_nextCount_hardware (history count : Byte) :
    (nextCount Config.hardware history count).toNat =
      if history.toNat % 16 = 0 then (if count.toNat + 1 > 250 then 100 else count.toNat + 1) else 0 := by
  have window := winClosed_hardware_iff history
  obtain ⟨opened, cleared⟩ | ⟨closed, above, rebased⟩ | ⟨closed, within, counted⟩ :=
    nextCount_cases Config.hardware history count
  · rw [cleared, if_neg (mt window.mpr (Bool.eq_false_iff.mp opened))]
    rfl
  · have above : 250 < count.toNat + 1 := above
    rw [rebased, if_pos (window.mp closed), if_pos above]
    rfl
  · have within : count.toNat + 1 ≤ 250 := within
    rw [counted, if_pos (window.mp closed), if_neg within.not_gt]

/-! ### TICK -/

/-- Settles O25: TICK always answers, writes its own three registers and advances the tick counter (R77, R79); each
channel holds its history with the new sample shifted in, and the counter that follows from that history (R78). -/
theorem tickSamplesBothChannels : Obligations.TickSamplesBothChannels := by
  unfold Obligations.TickSamplesBothChannels
  intro s sw hardware
  refine ⟨sampleAndAdvance sw s, exec_tick sw s, ?registers, fun ch => ⟨?history, ?counter⟩⟩
  case registers =>
    rw [← add_one_eq_ofNat_mod s.tickCounter]
    exact sampleAndAdvance_eq sw s
  case history => rw [sampleAndAdvance_readHist, toNat_shiftIn_sampleOf]
  case counter =>
    rw [sampleAndAdvance_readHist, sampleAndAdvance_readCnt, hardware, toNat_nextCount_hardware]

end Sys2Proof.Proofs
end

section
/-! PROOF. DELAY, WAITCHECK and RDTICK of `42_delay.md`. -/

namespace Sys2Proof.Proofs
open Sys2Proof.Machine

/-! ### DELAY -/

/-- DELAY on an idle host port is STARTWAIT with the held response 0x00 (R84). -/
theorem exec_delay_idle {s : State} (n : Byte) (idle : s.hs = .idle) :
    exec (.delay n) s = .next (startWait n 0x00 s) :=
  congrArg _ (whenIdle_idle _ idle)

/-- The sum of two registers holds the natural sum modulo their range. -/
theorem add_eq_ofNat_mod {w : Nat} (x y : BitVec w) : x + y = BitVec.ofNat w ((x.toNat + y.toNat) % 2 ^ w) := by
  rw [← BitVec.toNat_add, BitVec.ofNat_toNat, BitVec.setWidth_eq]

/-- Settles O32: the port is idle, so DELAY is STARTWAIT, which answers at once for 0 and otherwise stores the target
(R85); the target's addition is the one over the naturals modulo 256. -/
theorem delayAnswersOrWaits : Obligations.DelayAnswersOrWaits := by
  unfold Obligations.DelayAnswersOrWaits
  intro s n idle
  have zeroIff : n.toNat = 0 ↔ n = 0 := BitVec.toNat_inj (y := 0)
  rw [exec_delay_idle n idle, ← add_eq_ofNat_mod]
  obtain ⟨zero, answered⟩ | ⟨nonzero, waiting⟩ := startWait_cases n 0x00 s
  · rw [answered, if_pos (zeroIff.mpr zero)]
    rfl
  · rw [waiting, if_neg (mt zeroIff.mp nonzero)]

/-! ### WAITCHECK -/

/-- Settles O33: the port waits, so WAITCHECK compares, and ends the wait exactly when the counter equals the target. -/
theorem waitcheckEndsAtTheTarget : Obligations.WaitcheckEndsAtTheTarget := by
  unfold Obligations.WaitcheckEndsAtTheTarget
  intro s waits
  rw [exec_waitcheck waits]
  obtain ⟨reached, ended⟩ | ⟨notReached, unchanged⟩ := checkWait_cases s
  · rw [ended, if_pos reached]
    rfl
  · rw [unchanged, if_neg notReached]

/-! ### RDTICK -/

/-- Settles O34: the port is idle, so RDTICK has its effect, which emits the tick counter and writes no register. -/
theorem rdtickAnswersTheCounter : Obligations.RdtickAnswersTheCounter := by
  unfold Obligations.RdtickAnswersTheCounter
  intro s idle
  exact congrArg _ (whenIdle_idle _ idle)

end Sys2Proof.Proofs
end

section
/-! PROOF. The classification function and CLASSIFY of `43_classifier.md`. -/

namespace Sys2Proof.Proofs
open Sys2Proof.Machine

/-! ### The classification function -/

/-- A counter strictly above LONG_THRESH is LONG (R90). -/
theorem classify_above {c : Config} {count : Byte} (above : c.longThresh < count) : classify c count = .long :=
  if_pos above

/-- A counter from 1 to LONG_THRESH is SHORT (R90). -/
theorem classify_within {c : Config} {count : Byte} (positive : 1 ≤ count) (within : count ≤ c.longThresh) :
    classify c count = .short :=
  (if_neg (BitVec.not_lt.mpr within)).trans (if_pos positive)

/-- A counter at 0 is NONE under every threshold (R90). -/
theorem classify_zero (c : Config) : classify c 0 = .none :=
  (if_neg BitVec.not_lt_zero).trans (if_neg (by decide))

/-- Settles O36: with LONG_THRESH = 150 the three ranges are those of the classification lemmas, and the codes are the
values of R7. -/
theorem classificationThresholds : Obligations.ClassificationThresholds := by
  unfold Obligations.ClassificationThresholds
  intro c
  refine ⟨?long, ?short, ?none, rfl, rfl, rfl⟩
  case long => exact fun above => classify_above above
  case short => exact fun ⟨positive, within⟩ => classify_within positive within
  case none =>
    intro zero
    have isZero : c = 0 := (BitVec.toNat_inj (y := 0)).mp zero
    rw [isZero, classify_zero]

/-! ### CLASSIFY -/

/-- CLASSIFY on an idle host port is STARTWAIT with the guard delay and the code of the one result `e` (R91). -/
theorem exec_classify_idle {s : State} {ch : BitVec 1} {e : Event} (idle : s.hs = .idle)
    (result : classify s.cfg (readCnt s ch) = e) :
    exec (.classify ch) s = .next (startWait (guardTicks s.cfg e) (eventCode s.cfg e) s) := by
  subst result
  exact congrArg _ (whenIdle_idle _ idle)

/-- STARTWAIT as one value over the registers it writes (R85). -/
theorem startWait_eq_ite (n v : Byte) (s : State) :
    startWait n v s =
      if n = 0 then { s with rsp := some v }
      else { s with waitTarget := s.tickCounter + n, rspHold := v, hs := .wait } := by
  obtain ⟨zero, answered⟩ | ⟨nonzero, waiting⟩ := startWait_cases n v s
  · rw [answered, if_pos zero]
    rfl
  · rw [waiting, if_neg nonzero]

/-- Settles O37: the port is idle, so CLASSIFY is STARTWAIT with the guard delay of its result. LONG and SHORT have a
configured guard delay, which may be 0; the guard delay of NONE is 0, so STARTWAIT answers at once. -/
theorem classifyAnswersOrGuards : Obligations.ClassifyAnswersOrGuards := by
  unfold Obligations.ClassifyAnswersOrGuards
  intro s ch idle
  cases result : classify s.cfg (readCnt s ch) with
  | long =>
    rw [exec_classify_idle idle result, startWait_eq_ite]
    rfl
  | short =>
    rw [exec_classify_idle idle result, startWait_eq_ite]
    rfl
  | none =>
    rw [exec_classify_idle idle result, startWait_eq_ite]
    exact congrArg _ (if_pos rfl)

end Sys2Proof.Proofs
end

section
/-! PROOF. The slot rotation, WRPEND, COMMIT and COMMITSTEP of `44_buffer_pipeline.md`. -/

namespace Sys2Proof.Proofs
open Sys2Proof.Machine

/-! ### The slot rotation -/

/-- Rotating a 6-bit ring to the left by 3 swaps its halves (R96). -/
theorem rotateLeft_three (ring : BitVec 6) : ring.rotateLeft 3 = ring.extractLsb' 0 3 ++ ring.extractLsb' 3 3 := by
  ext i inRing
  rw [BitVec.getElem_rotateLeft, BitVec.getElem_append]
  split
  next lowHalf =>
    rw [BitVec.getElem_extractLsb']
    exact (BitVec.getLsbD_eq_getElem _).symm
  next highHalf =>
    rw [BitVec.getElem_extractLsb', Nat.zero_add]
    exact (BitVec.getLsbD_eq_getElem _).symm

/-- Rotating it to the right by 3 is the same, because 3 is half of 6 (R96). -/
theorem rotateRight_three (ring : BitVec 6) : ring.rotateRight 3 = ring.rotateLeft 3 := by
  ext i inRing
  rw [BitVec.getElem_rotateRight, BitVec.getElem_rotateLeft]

/-- With ROT_AMT = 3, `rot` keeps bits 7:6 and swaps the halves of the low six bits (R96). -/
theorem rot_amount_three {c : Config} (v : Byte) (amount : c.rotAmt = 3) :
    rot c v = v.extractLsb' 6 2 ++ v.extractLsb' 0 3 ++ v.extractLsb' 3 3 := by
  unfold rot
  rw [amount, rotateLeft_three, BitVec.extractLsb'_extractLsb'_of_le (by decide),
    BitVec.extractLsb'_extractLsb'_of_le (by decide), BitVec.append_assoc, BitVec.cast_eq]

/-- Settles O38: the ring of a slot byte is its low six bits, and rotating a 6-bit ring by 3 swaps its halves, in
either direction. -/
theorem rotationFormula : Obligations.RotationFormula := by
  unfold Obligations.RotationFormula
  exact ⟨fun _ v amount => rot_amount_three v amount, fun ring => (rotateRight_three ring).symm⟩

/-! ### WRPEND -/

/-- WRPEND on an idle host port writes the pending slot and answers 0x00 (R98). -/
theorem exec_wrpend_idle {s : State} (slot : BitVec 2) (v : Byte) (idle : s.hs = .idle) :
    exec (.wrpend slot v) s = .next (emit 0x00 (writePend slot v s)) :=
  congrArg _ (whenIdle_idle _ idle)

/-- Settles O40: the port is idle, so WRPEND writes one slot of the pending buffer and answers; what the slots read
afterwards is the law of the slot array (R44). -/
theorem wrpendStoresOneSlot : Obligations.WrpendStoresOneSlot := by
  unfold Obligations.WrpendStoresOneSlot
  intro s slot v idle
  refine ⟨emit 0x00 (writePend slot v s), exec_wrpend_idle slot v idle, rfl, ?written, ?others⟩
  case written => exact s.pending.get_set_same slot v
  case others => exact fun _ other => s.pending.get_set_other v other.symm

/-! ### COMMIT -/

/-- COMMIT on an idle host port, by the setting of COMMIT_ATOMIC (R99, R101). -/
theorem exec_commit_idle {s : State} (idle : s.hs = .idle) :
    exec .commit s = .next (if s.cfg.commitAtomic then commitAllSlots s else beginCommit s) :=
  congrArg _ (whenIdle_idle _ idle)

/-- Settles O41: the port is idle and the copy is not atomic, so COMMIT only writes `commitIdx` and `hs`. -/
theorem commitBeginsTheCopy : Obligations.CommitBeginsTheCopy := by
  unfold Obligations.CommitBeginsTheCopy
  intro s idle notAtomic
  rw [exec_commit_idle idle, notAtomic]
  rfl

/-- On the copy path slot ROT_SLOT is rotated (R100, R101). -/
theorem commitByte_rotSlot {s : State} {i : BitVec 2} (rotated : i = s.cfg.rotSlot) :
    commitByte s i = rot s.cfg (readPend s i) :=
  if_pos rotated

/-- On the copy path every other slot is copied as it is (R100, R101). -/
theorem commitByte_other {s : State} {i : BitVec 2} (notRotated : i ≠ s.cfg.rotSlot) :
    commitByte s i = readPend s i :=
  if_neg notRotated

/-- A copy writes one committed slot and leaves all else alone. -/
theorem copySlot_eq (i : BitVec 2) (s : State) :
    copySlot i s = { s with committed := s.committed.set i (commitByte s i) } := rfl

/-- The byte a copy writes does not depend on the committed buffer, so no copy changes what a later one writes. -/
theorem copySlot_withCommitted (i : BitVec 2) (s : State) (c : SlotArray) :
    copySlot i { s with committed := c } = { s with committed := c.set i (commitByte s i) } := rfl

/-- The atomic copy writes the four committed slots from the state before it, answers 0x00 and leaves all else alone
(R101). -/
theorem commitAllSlots_eq (s : State) :
    commitAllSlots s =
      { s with
        committed := ⟨commitByte s 0, commitByte s 1, commitByte s 2, commitByte s 3⟩
        rsp := some 0x00 } := by
  rw [commitAllSlots, copySlot_eq 0, copySlot_withCommitted, copySlot_withCommitted, copySlot_withCommitted]
  rfl

/-- Settles O43: the port is idle and the copy is atomic, so COMMIT writes all four slots; of these only slot 2 is
ROT_SLOT. -/
theorem atomicCommitCopiesAllSlots : Obligations.AtomicCommitCopiesAllSlots := by
  unfold Obligations.AtomicCommitCopiesAllSlots
  intro s idle atomic rotSlot
  have slot0 : commitByte s 0 = readPend s 0 := commitByte_other (by rw [rotSlot]; decide)
  have slot1 : commitByte s 1 = readPend s 1 := commitByte_other (by rw [rotSlot]; decide)
  have slot2 : commitByte s 2 = rot s.cfg (readPend s 2) := commitByte_rotSlot rotSlot.symm
  have slot3 : commitByte s 3 = readPend s 3 := commitByte_other (by rw [rotSlot]; decide)
  rw [exec_commit_idle idle, if_pos atomic, commitAllSlots_eq, slot0, slot1, slot2, slot3]

/-! ### COMMITSTEP -/

/-- Reading the committed slot that a copy has just written. -/
theorem readComm_copySlot_same (i : BitVec 2) (s : State) : readComm (copySlot i s) i = commitByte s i :=
  s.committed.get_set_same i _

/-- A copy leaves the other committed slots alone. -/
theorem readComm_copySlot_other {i j : BitVec 2} (s : State) (other : i ≠ j) :
    readComm (copySlot i s) j = readComm s j :=
  s.committed.get_set_other _ other

/-- COMMITSTEP copies one slot, then either ends the commit or goes on to the next slot (R100). -/
theorem commitOneSlot_cases (s : State) :
    (s.commitIdx = 3 ∧
      commitOneSlot s = { copySlot s.commitIdx s with hs := .idle, rsp := some 0x00 }) ∨
    (s.commitIdx ≠ 3 ∧ commitOneSlot s = { copySlot s.commitIdx s with commitIdx := s.commitIdx + 1 }) := by
  by_cases last : s.commitIdx = 3
  · exact .inl ⟨last, if_pos last⟩
  · exact .inr ⟨last, if_neg last⟩

/-- Whether or not it ends the commit, COMMITSTEP leaves the committed buffer of its one copy. -/
theorem readComm_commitOneSlot (s : State) (i : BitVec 2) :
    readComm (commitOneSlot s) i = readComm (copySlot s.commitIdx s) i := by
  obtain ⟨-, ended⟩ | ⟨-, advanced⟩ := commitOneSlot_cases s
  · rw [ended]; rfl
  · rw [advanced]; rfl

/-- With ROT_SLOT = 2 and ROT_AMT = 3, what a commit writes into slot `i` (R100). -/
theorem commitByte_eq_ite {s : State} (rotSlot : s.cfg.rotSlot = 2) (amount : s.cfg.rotAmt = 3) (i : BitVec 2) :
    commitByte s i =
      if i = 2 then
        (readPend s 2).extractLsb' 6 2 ++ (readPend s 2).extractLsb' 0 3 ++ (readPend s 2).extractLsb' 3 3
      else readPend s i := by
  split
  next isTwo => rw [isTwo, commitByte_rotSlot rotSlot.symm, rot_amount_three _ amount]
  next notTwo => exact commitByte_other (rotSlot ▸ notTwo)

/-- Settles O42: a commit is in progress, so COMMITSTEP copies the byte of slot `commitIdx` and no other, and ends the
commit exactly after slot 3. -/
theorem commitstepCopiesOneSlot : Obligations.CommitstepCopiesOneSlot := by
  unfold Obligations.CommitstepCopiesOneSlot
  intro s committing rotSlot amount
  refine ⟨commitOneSlot s, exec_commitstep committing, ?copied, ?others, ?registers⟩
  case copied => rw [readComm_commitOneSlot, readComm_copySlot_same, commitByte_eq_ite rotSlot amount]
  case others =>
    intro j other
    rw [readComm_commitOneSlot, readComm_copySlot_other s other.symm]
  case registers =>
    obtain ⟨last, ended⟩ | ⟨notLast, advanced⟩ := commitOneSlot_cases s
    · rw [ended, if_pos last]
      rfl
    · rw [advanced, if_neg notLast]
      rfl

end Sys2Proof.Proofs
end

section
/-! PROOF. RESET, NOP, the dispatch of command words and the commands presented while busy, of `45_system.md`. -/

namespace Sys2Proof.Proofs
open Sys2Proof.Machine

/-! ### The fields of a command word -/

/-- A command word is its fields put together (R56). -/
theorem packCmd_fields (w : CmdWord) : packCmd (opField w) (aField w) (immField w) = w := by
  unfold packCmd opField aField immField
  have upper : w.extractLsb' 12 4 ++ w.extractLsb' 8 4 = w.extractLsb' 8 8 :=
    BitVec.extractLsb'_append_extractLsb'_eq_extractLsb' rfl
  have whole : w.extractLsb' 8 8 ++ w.extractLsb' 0 8 = w.extractLsb' 0 16 :=
    BitVec.extractLsb'_append_extractLsb'_eq_extractLsb' rfl
  rw [upper, whole, BitVec.extractLsb'_eq_self]

/-- Bits of a packed word from bit 12 upwards are bits of `op`. -/
theorem extractLsb'_packCmd_op (op a : BitVec 4) (imm : Byte) (width : Nat) :
    (packCmd op a imm).extractLsb' 12 width = op.extractLsb' 0 width := by
  unfold packCmd
  rw [BitVec.extractLsb'_append_eq_of_le (by decide), BitVec.extractLsb'_append_eq_of_le (by decide)]

/-- Bits of a packed word from bit 8 upwards and below bit 12 are bits of `a`. -/
theorem extractLsb'_packCmd_a (op a : BitVec 4) (imm : Byte) {width : Nat} (inField : width ≤ 4) :
    (packCmd op a imm).extractLsb' 8 width = a.extractLsb' 0 width := by
  unfold packCmd
  rw [BitVec.extractLsb'_append_eq_of_le (by decide), BitVec.extractLsb'_append_eq_of_add_le (by omega)]

@[simp] theorem opField_packCmd (op a : BitVec 4) (imm : Byte) : opField (packCmd op a imm) = op :=
  (extractLsb'_packCmd_op op a imm 4).trans BitVec.extractLsb'_eq_self

@[simp] theorem chOperand_packCmd (op a : BitVec 4) (imm : Byte) :
    chOperand (packCmd op a imm) = a.extractLsb' 0 1 :=
  extractLsb'_packCmd_a op a imm (by decide)

@[simp] theorem slotOperand_packCmd (op a : BitVec 4) (imm : Byte) :
    slotOperand (packCmd op a imm) = a.extractLsb' 0 2 :=
  extractLsb'_packCmd_a op a imm (by decide)

@[simp] theorem immOperand_packCmd (op a : BitVec 4) (imm : Byte) : immOperand (packCmd op a imm) = imm :=
  BitVec.extractLsb'_append_eq_right

/-! ### The dispatch -/

/-- The eight opcodes below the reserved range 0x8 to 0xF (R58). -/
theorem opcode_cases {op : BitVec 4} (below : op.toNat < 8) :
    op = 0x0 ∨ op = 0x1 ∨ op = 0x2 ∨ op = 0x3 ∨ op = 0x4 ∨ op = 0x5 ∨ op = 0x6 ∨ op = 0x7 := by
  revert op
  decide

/-- Every word with an opcode from 0x8 on is the reserved operation of its low three opcode bits (R106). -/
theorem decodeCmd_reserved8F {w : CmdWord} (reserved : 8 ≤ (opField w).toNat) :
    decodeCmd w = .reserved8F (w.extractLsb' 12 3) := by
  obtain ⟨k, above⟩ := Nat.exists_eq_add_of_le' reserved
  rw [decodeCmd, above]
  rfl

/-- Settles O6: a word's operands are its fields, and each opcode below 0x8 is the row of the dispatch table with that
number; from 0x8 on the word is reserved, and none of the table's tests holds. -/
theorem commandWordDispatch : Obligations.CommandWordDispatch := by
  unfold Obligations.CommandWordDispatch
  refine ⟨packCmd_fields, fun op a imm => ?_⟩
  obtain below | reserved := Nat.lt_or_ge op.toNat 8
  · rw [decodeCmd, opField_packCmd, chOperand_packCmd, slotOperand_packCmd, immOperand_packCmd]
    obtain rfl | rfl | rfl | rfl | rfl | rfl | rfl | rfl := opcode_cases below <;> rfl
  · have notBelow (k : BitVec 4) (small : k.toNat < 8) : op ≠ k := by
      rintro rfl
      exact small.not_ge reserved
    rw [decodeCmd_reserved8F ((opField_packCmd op a imm).symm ▸ reserved), extractLsb'_packCmd_op]
    simp [notBelow]

/-! ### RESET -/

/-- Settles O3: RESET writes the reset table, in which the two values the configuration gives are this hardware's; a line
with `rst = 1` selects RESET alone, so the step is that one operation. -/
theorem resetWritesTheResetTable : Obligations.ResetWritesTheResetTable := by
  unfold Obligations.ResetWritesTheResetTable
  refine ⟨fun s hardware => ?table, fun s v rest placed rst => ?alone⟩
  case table =>
    rw [exec_reset, resetRegisters, hardware]
    rfl
  case alone => rw [step_trace v rest s placed, selected_rst rst, runOps_singleton]

/-! ### NOP -/

/-- Settles O45: the port is idle, so NOP has its effect, which emits 0x00 and writes no register. -/
theorem nopOnlyAnswers : Obligations.NopOnlyAnswers := by
  unfold Obligations.NopOnlyAnswers
  intro s idle
  exact congrArg _ (whenIdle_idle _ idle)

/-! ### Commands presented while busy -/

/-- Every command is an effect guarded by the idle host port (R68). -/
theorem exec_command_whenIdle {i : Instr} (command : i.isCommand = true) :
    ∃ effect : State → State, ∀ s, exec i s = .next (whenIdle effect s) := by
  cases i with
  | nop => exact ⟨emit 0x00, fun _ => rfl⟩
  | classify ch => exact ⟨classifyAndGuard ch, fun _ => rfl⟩
  | delay n => exact ⟨startWait n 0x00, fun _ => rfl⟩
  | rdtick => exact ⟨fun s => emit s.tickCounter s, fun _ => rfl⟩
  | wrpend slot v => exact ⟨fun s => emit 0x00 (writePend slot v s), fun _ => rfl⟩
  | commit => exact ⟨fun s => if s.cfg.commitAtomic then commitAllSlots s else beginCommit s, fun _ => rfl⟩
  | setdim d => exact ⟨fun s => emit 0x00 { s with dimDivisor := clampDivisor s.cfg d }, fun _ => rfl⟩
  | reserved7 => exact ⟨emit 0x00, fun _ => rfl⟩
  | reserved8F op => exact ⟨emit 0x00, fun _ => rfl⟩
  | reset | refresh | tick | waitcheck | commitstep => cases command

/-- The mask 0x3E0000 keeps `rst`, both strobes and the samples, and clears the command's fields (R55). -/
theorem ofVector_withoutCommand (v : StimVec) :
    Stim.ofVector (v &&& 0x3E0000) = { Stim.ofVector v with cmdValid := false, cmd := 0 } := by
  have samples : (v &&& 0x3E0000).extractLsb' 17 2 = v.extractLsb' 17 2 := by
    rw [BitVec.extractLsb'_and]
    exact BitVec.and_allOnes
  have command : (v &&& 0x3E0000).extractLsb' 0 16 = 0 := by
    rw [BitVec.extractLsb'_and]
    exact BitVec.and_zero
  rw [Stim.ofVector, samples, command]
  simp [Stim.ofVector]

/-- At an instant that begins busy, a vector selects what it selects without its command (R67, R107). -/
theorem selected_busy_withoutCommand {hs0 : HostState} (busy : hs0 ≠ .idle) (v : StimVec) :
    selected hs0 (v &&& 0x3E0000) = selected hs0 v := by
  have fields := ofVector_withoutCommand v
  cases rst : (Stim.ofVector v).rst with
  | true =>
    have rst' : (Stim.ofVector (v &&& 0x3E0000)).rst = true := by rw [fields, rst]
    rw [selected_rst rst, selected_rst rst']
  | false =>
    have rst' : (Stim.ofVector (v &&& 0x3E0000)).rst = false := by rw [fields, rst]
    rw [selected_phases rst, selected_phases rst', fields]
    simp [busy]

/-- Settles O46: alone, a busy command's guard fails; in an instant that begins busy, the line without the command selects
the same operations, and they run from the same state. -/
theorem busyCommandsAreIgnored : Obligations.BusyCommandsAreIgnored := by
  unfold Obligations.BusyCommandsAreIgnored
  refine ⟨fun i s command busy => ?exec, fun s v rest busy placed => ?step⟩
  case exec =>
    obtain ⟨effect, guarded⟩ := exec_command_whenIdle command
    rw [guarded, whenIdle_busy effect busy]
  case step =>
    rw [step_trace v rest s placed, step_trace (v &&& 0x3E0000) rest { s with trace := _ } rfl,
      selected_busy_withoutCommand busy]

end Sys2Proof.Proofs
end

section
/-! PROOF. The stimulus vector, its decoding and encoding, and the rows of the opcode table, of `30_encoding.md`. -/

namespace Sys2Proof.Proofs
open Sys2Proof.Machine

/-! ### Fields and vector -/

/-- One bit of a vector, as a vector of width 1. -/
theorem ofBool_getLsbD {w : Nat} (v : BitVec w) (i : Nat) : BitVec.ofBool (v.getLsbD i) = v.extractLsb' i 1 := by
  ext j inBit
  simp [show j = 0 by omega]

/-- Packing the fields of a vector gives it back: the fields are adjacent slices that cover it (R55). -/
@[simp] theorem toVector_ofVector (v : StimVec) : (Stim.ofVector v).toVector = v := by
  simp only [Stim.toVector, Stim.ofVector, ofBool_getLsbD]
  rw [BitVec.extractLsb'_append_extractLsb'_eq_extractLsb' (start₂ := 21) rfl,
    BitVec.extractLsb'_append_extractLsb'_eq_extractLsb' (start₂ := 20) rfl,
    BitVec.extractLsb'_append_extractLsb'_eq_extractLsb' (start₂ := 19) rfl,
    BitVec.extractLsb'_append_extractLsb'_eq_extractLsb' (start₂ := 17) rfl,
    BitVec.extractLsb'_append_extractLsb'_eq_extractLsb' (start₂ := 16) rfl]
  exact BitVec.extractLsb'_eq_self

/-- Unpacking packed fields gives them back (R55). -/
@[simp] theorem ofVector_toVector (f : Stim) : Stim.ofVector f.toVector = f := by
  have samples : f.toVector.extractLsb' 17 2 = f.sw := by
    rw [Stim.toVector, BitVec.extractLsb'_append_eq_of_le (by decide), BitVec.extractLsb'_append_eq_of_le (by decide)]
    exact BitVec.extractLsb'_append_eq_right
  have command : f.toVector.extractLsb' 0 16 = f.cmd := BitVec.extractLsb'_append_eq_right
  rw [Stim.ofVector, samples, command]
  have bits : f.toVector.getLsbD 21 = f.rst ∧ f.toVector.getLsbD 20 = f.refreshStb ∧
      f.toVector.getLsbD 19 = f.tickStb ∧ f.toVector.getLsbD 16 = f.cmdValid := by
    simp only [Stim.toVector, BitVec.getLsbD_append]
    simp
  obtain ⟨rst, refreshStb, tickStb, cmdValid⟩ := bits
  rw [rst, refreshStb, tickStb, cmdValid]

/-- Settles O5: each field is the slice R55 names, and fields and vector determine each other. -/
theorem stimulusVectorLayout : Obligations.StimulusVectorLayout := by
  unfold Obligations.StimulusVectorLayout
  have sample1 (v : StimVec) : sampleOf (Stim.ofVector v).sw 1 = v.extractLsb' 18 1 := by
    ext j inBit
    simp [sampleOf, Stim.ofVector, show j = 0 by omega]
  have sample0 (v : StimVec) : sampleOf (Stim.ofVector v).sw 0 = v.extractLsb' 17 1 := by
    ext j inBit
    simp [sampleOf, Stim.ofVector, show j = 0 by omega]
  exact ⟨fun v => ⟨rfl, rfl, rfl, sample1 v, sample0 v, rfl, rfl, toVector_ofVector v⟩, ofVector_toVector⟩

/-- Masking a vector masks its fields one by one. -/
theorem ofVector_and (v m : StimVec) :
    Stim.ofVector (v &&& m) =
      { rst := (Stim.ofVector v).rst && (Stim.ofVector m).rst
        refreshStb := (Stim.ofVector v).refreshStb && (Stim.ofVector m).refreshStb
        tickStb := (Stim.ofVector v).tickStb && (Stim.ofVector m).tickStb
        sw := (Stim.ofVector v).sw &&& (Stim.ofVector m).sw
        cmdValid := (Stim.ofVector v).cmdValid && (Stim.ofVector m).cmdValid
        cmd := (Stim.ofVector v).cmd &&& (Stim.ofVector m).cmd } := by
  simp [Stim.ofVector, BitVec.extractLsb'_and]

/-- A masked vector is a given one exactly if its masked fields are that one's fields. -/
theorem and_eq_toVector_iff (v m : StimVec) (f : Stim) : v &&& m = f.toVector ↔ Stim.ofVector (v &&& m) = f :=
  ⟨fun same => by rw [same, ofVector_toVector], fun same => by rw [← same, toVector_ofVector]⟩

/-! ### Encoding and decoding -/

/-- The dispatch of a packed command word (R109), by opcode. -/
theorem decodeCmd_packCmd (op a : BitVec 4) (imm : Byte) :
    decodeCmd (packCmd op a imm) =
      if op = 0x0 then .nop
      else if op = 0x1 then .classify (a.extractLsb' 0 1)
      else if op = 0x2 then .delay imm
      else if op = 0x3 then .rdtick
      else if op = 0x4 then .wrpend (a.extractLsb' 0 2) imm
      else if op = 0x5 then .commit
      else if op = 0x6 then .setdim imm
      else if op = 0x7 then .reserved7
      else .reserved8F (op.extractLsb' 0 3) :=
  commandWordDispatch.2 op a imm

/-- The low bits of a widened field are the field. -/
theorem extractLsb'_setWidth {w v : Nat} (x : BitVec w) (fits : w ≤ v) : (x.setWidth v).extractLsb' 0 w = x := by
  ext i inField
  simp [show i < v by omega, BitVec.getLsbD_eq_getElem inField]

/-- A command's word decodes to that command, with its operand (R58). -/
theorem decodeCmd_encodeCmd {i : Instr} (command : i.isCommand = true) : decodeCmd (encodeCmd i) = i := by
  cases i with
  | nop | commit | rdtick | reserved7 => rfl
  | delay n => exact decodeCmd_packCmd 2 0 n
  | setdim d => exact decodeCmd_packCmd 6 0 d
  | classify ch => exact (decodeCmd_packCmd 1 _ 0).trans (congrArg Instr.classify (extractLsb'_setWidth ch (by decide)))
  | wrpend slot v =>
    exact (decodeCmd_packCmd 4 _ v).trans (congrArg (Instr.wrpend · v) (extractLsb'_setWidth slot (by decide)))
  | reserved8F op => revert op; decide
  | reset | refresh | tick | waitcheck | commitstep => cases command

/-- A command is presented alone, through `cmd_valid` and its word (R58). -/
theorem encodeFields_command {i : Instr} (command : i.isCommand = true) :
    encodeFields i = { Stim.quiet with cmdValid := true, cmd := encodeCmd i } := by
  cases i with
  | nop | classify | delay | rdtick | wrpend | commit | setdim | reserved7 | reserved8F => rfl
  | reset | refresh | tick | waitcheck | commitstep => cases command

/-- The rows that a command's vector matches: its own, and COMMITSTEP's, which any vector without reset matches. -/
theorem decode_encode_command {i : Instr} (command : i.isCommand = true) : decode (encode i) = [i, .commitstep] := by
  rw [decode, encode, ofVector_toVector, encodeFields_command command, decodeFields]
  simp [Stim.quiet, decodeCmd_encodeCmd command]

/-- A command's state condition is the idle host port. -/
theorem conditionMet_command {i : Instr} (command : i.isCommand = true) (hs0 : HostState) :
    conditionMet hs0 i = (HostState.idle == hs0) := by
  rw [← decodeCmd_encodeCmd command, conditionMet_decodeCmd]

/-- At an idle instant a command's vector selects that command alone. -/
theorem selected_encode_command {i : Instr} (command : i.isCommand = true) : selected .idle (encode i) = [i] := by
  rw [selected, decode_encode_command command, List.filter_cons_of_pos (by simp [conditionMet_command command])]
  rfl

/-- Settles O8: fields survive packing, so a vector decodes to what its fields ask for. A command's word decodes back to
it; the rows without an operand beside the strobes evaluate. -/
theorem encodedOperationsDecodeBack : Obligations.EncodedOperationsDecodeBack := by
  unfold Obligations.EncodedOperationsDecodeBack
  refine ⟨fun i own => ?alone, by decide, by decide, fun i => ?among⟩
  case alone =>
    cases i with
    | reset | refresh => decide
    | tick sw => revert sw; decide
    | waitcheck | commitstep => cases own
    | nop | classify | delay | rdtick | wrpend | commit | setdim | reserved7 | reserved8F =>
      exact selected_encode_command rfl
  case among =>
    cases i with
    | reset | refresh | waitcheck | commitstep => decide
    | tick sw => revert sw; decide
    | nop | classify | delay | rdtick | wrpend | commit | setdim | reserved7 | reserved8F =>
      rw [decode_encode_command rfl]
      exact List.mem_cons_self

/-- Settles O10: the fifteen vectors are literals, so each list of selected operations evaluates (R65). -/
theorem writtenOutWordsDecode : Obligations.WrittenOutWordsDecode := by
  unfold Obligations.WrittenOutWordsDecode
  decide

/-! ### Ignored fields -/

/-- Without a tick strobe, the samples are no part of what is decoded (R60). -/
theorem decode_without_samples {v : StimVec} (noTick : v.getLsbD 19 = false) : decode (v &&& 0x39FFFF) = decode v := by
  have noTick' : (Stim.ofVector v).tickStb = false := noTick
  have keepsCmd : (Stim.ofVector v).cmd &&& (Stim.ofVector 0x39FFFF).cmd = (Stim.ofVector v).cmd := BitVec.and_allOnes
  rw [decode, ofVector_and, keepsCmd, decode, decodeFields, decodeFields, noTick']
  simp [Stim.ofVector]

/-- Without `cmd_valid`, the command word is no part of what is decoded (R60). -/
theorem decode_without_command {v : StimVec} (noCommand : v.getLsbD 16 = false) :
    decode (v &&& 0x3F0000) = decode v := by
  have noCommand' : (Stim.ofVector v).cmdValid = false := noCommand
  have keepsSw : (Stim.ofVector v).sw &&& (Stim.ofVector 0x3F0000).sw = (Stim.ofVector v).sw := BitVec.and_allOnes
  rw [decode, ofVector_and, keepsSw, decode, decodeFields, decodeFields, noCommand']
  simp [Stim.ofVector]

/-- A quantity that a mask leaves as it is agrees on vectors that agree under the mask. -/
theorem eq_of_masked_eq {α : Type} {f : StimVec → α} {m v w : StimVec} (same : v &&& m = w &&& m)
    (onV : f (v &&& m) = f v) (onW : f (w &&& m) = f w) : f v = f w := by
  rw [← onV, same, onW]

/-- Two vectors agree in a bit that the mask keeps. -/
theorem getLsbD_eq_of_masked_eq {m v w : StimVec} {i : Nat} (same : v &&& m = w &&& m) (kept : m.getLsbD i = true) :
    v.getLsbD i = w.getLsbD i :=
  eq_of_masked_eq (f := fun x => x.getLsbD i) same (by simp [kept]) (by simp [kept])

/-- Settles O7: each opcode's row of the dispatch table reads only its own operands; the vector's unread fields can be
masked away without a change in what is decoded or selected. -/
theorem ignoredFieldsAreIgnored : Obligations.IgnoredFieldsAreIgnored := by
  unfold Obligations.IgnoredFieldsAreIgnored
  refine ⟨fun op a b m n noOperand => ?noOperand, fun a b m n sameCh => ?classify, fun a b m => ⟨?delay, ?setdim⟩,
    fun a b m sameSlot => ?wrpend, fun v w same noTick => ?samples, fun v w same noCommand => ?command,
    fun hs0 v w busy same => ?busy⟩
  case noOperand =>
    have others : op ≠ 0x1 ∧ op ≠ 0x2 ∧ op ≠ 0x4 ∧ op ≠ 0x6 := by
      revert op
      decide
    obtain ⟨notClassify, notDelay, notWrpend, notSetdim⟩ := others
    rw [decodeCmd_packCmd, decodeCmd_packCmd, if_neg notClassify, if_neg notDelay, if_neg notWrpend,
      if_neg notSetdim, if_neg notClassify, if_neg notDelay, if_neg notWrpend, if_neg notSetdim]
  case classify =>
    have sameOperand : a.extractLsb' 0 1 = b.extractLsb' 0 1 := by rw [← ofBool_getLsbD, ← ofBool_getLsbD, sameCh]
    exact (decodeCmd_packCmd 1 a m).trans ((congrArg Instr.classify sameOperand).trans (decodeCmd_packCmd 1 b n).symm)
  case delay => exact (decodeCmd_packCmd 2 a m).trans (decodeCmd_packCmd 2 b m).symm
  case setdim => exact (decodeCmd_packCmd 6 a m).trans (decodeCmd_packCmd 6 b m).symm
  case wrpend =>
    exact (decodeCmd_packCmd 4 a m).trans
      ((congrArg (Instr.wrpend · m) sameSlot).trans (decodeCmd_packCmd 4 b m).symm)
  case samples =>
    have noTick' : w.getLsbD 19 = false := (getLsbD_eq_of_masked_eq same (by decide)).symm.trans noTick
    exact eq_of_masked_eq same (decode_without_samples noTick) (decode_without_samples noTick')
  case command =>
    have noCommand' : w.getLsbD 16 = false := (getLsbD_eq_of_masked_eq same (by decide)).symm.trans noCommand
    exact eq_of_masked_eq same (decode_without_command noCommand) (decode_without_command noCommand')
  case busy =>
    exact eq_of_masked_eq same (selected_busy_withoutCommand busy v) (selected_busy_withoutCommand busy w)

/-! ### The opcode table -/

/-- The opcodes of a command's row (R58). -/
def hasOpcode (op : BitVec 4) : Instr → Prop
  | .nop => op = 0x0
  | .classify _ => op = 0x1
  | .delay _ => op = 0x2
  | .rdtick => op = 0x3
  | .wrpend _ _ => op = 0x4
  | .commit => op = 0x5
  | .setdim _ => op = 0x6
  | .reserved7 => op = 0x7
  | .reserved8F _ => 8 ≤ op.toNat
  | .reset => False
  | .refresh => False
  | .tick _ => False
  | .waitcheck => False
  | .commitstep => False

/-- A word decodes to a command of its opcode's row. -/
theorem hasOpcode_decodeCmd (w : CmdWord) : hasOpcode (opField w) (decodeCmd w) := by
  obtain below | reserved := Nat.lt_or_ge (opField w).toNat 8
  · obtain op | op | op | op | op | op | op | op := opcode_cases below <;> rw [decodeCmd, op] <;> rfl
  · rw [decodeCmd_reserved8F reserved]
    exact reserved

/-- A word with an opcode of a command's row decodes to a command of that row. -/
theorem row_decodeCmd {i : Instr} {w : CmdWord} (opcode : hasOpcode (opField w) i) : (decodeCmd w).row = i.row := by
  cases i with
  | nop | classify | delay | rdtick | wrpend | commit | setdim | reserved7 =>
    rw [decodeCmd, show opField w = _ from opcode]
    rfl
  | reserved8F op =>
    rw [decodeCmd_reserved8F opcode]
    rfl
  | reset | refresh | tick | waitcheck | commitstep => exact opcode.elim

/-- The fields of a vector ask for a row (R58). -/
def asksFor (f : Stim) : Instr → Prop
  | .reset => f.rst = true
  | .refresh => f.rst = false ∧ f.refreshStb = true
  | .tick _ => f.rst = false ∧ f.tickStb = true
  | .waitcheck => f.rst = false ∧ f.tickStb = true
  | .commitstep => f.rst = false
  | i => f.rst = false ∧ f.cmdValid = true ∧ hasOpcode (opField f.cmd) i

/-- The command a vector presents is one it asks for. -/
theorem asksFor_decodeCmd {f : Stim} (noReset : f.rst = false) (valid : f.cmdValid = true) :
    asksFor f (decodeCmd f.cmd) := by
  have opcode := hasOpcode_decodeCmd f.cmd
  revert opcode
  cases decodeCmd f.cmd with
  | nop | classify | delay | rdtick | wrpend | commit | setdim | reserved7 | reserved8F =>
    exact fun opcode => ⟨noReset, valid, opcode⟩
  | reset | refresh | tick | waitcheck | commitstep => exact False.elim

/-- Every decoded operation is asked for. -/
theorem asksFor_of_mem {f : Stim} {i : Instr} (decoded : i ∈ decodeFields f) : asksFor f i := by
  unfold decodeFields at decoded
  cases rst : f.rst with
  | true =>
    rw [rst, if_pos rfl, List.mem_singleton] at decoded
    exact decoded ▸ rst
  | false =>
    simp only [rst, Bool.false_eq_true, if_false, List.mem_append, List.mem_ite_nil_right, List.mem_cons,
      List.not_mem_nil, or_false] at decoded
    obtain ((⟨strobe, rfl⟩ | ⟨strobe, rfl | rfl⟩) | ⟨valid, rfl⟩) | rfl := decoded
    · exact ⟨rst, strobe⟩
    · exact ⟨rst, strobe⟩
    · exact ⟨rst, strobe⟩
    · exact asksFor_decodeCmd rst valid
    · exact rst

/-- Of every row that is asked for, some operation is decoded. -/
theorem exists_mem_of_asksFor {f : Stim} {i : Instr} (asked : asksFor f i) :
    ∃ j ∈ decodeFields f, j.row = i.row := by
  unfold decodeFields
  cases i with
  | reset => exact ⟨.reset, by simp [show f.rst = true from asked], rfl⟩
  | refresh => exact ⟨.refresh, by simp [asked.1, asked.2], rfl⟩
  | tick sw => exact ⟨.tick f.sw, by simp [asked.1, asked.2], rfl⟩
  | waitcheck => exact ⟨.waitcheck, by simp [asked.1, asked.2], rfl⟩
  | commitstep => exact ⟨.commitstep, by simp [show f.rst = false from asked], rfl⟩
  | nop | classify | delay | rdtick | wrpend | commit | setdim | reserved7 | reserved8F =>
    obtain ⟨noReset, valid, opcode⟩ := asked
    exact ⟨decodeCmd f.cmd, by simp [noReset, valid], row_decodeCmd opcode⟩

/-- Masking a command word with 0xF000 keeps its opcode alone. -/
theorem and_opcodeMask (w : CmdWord) : w &&& 0xF000 = packCmd (opField w) 0 0 := by
  have mask : (0xF000 : CmdWord) = (BitVec.allOnes 4 ++ 0#4) ++ 0#8 := rfl
  calc w &&& 0xF000 = packCmd (opField w) (aField w) (immField w) &&& 0xF000 := by rw [packCmd_fields]
    _ = packCmd (opField w) 0 0 := by
      rw [mask, packCmd, BitVec.and_append, BitVec.and_append, BitVec.and_allOnes, BitVec.and_zero, BitVec.and_zero]
      rfl

/-- Words that are an opcode alone are equal exactly if their opcodes are. -/
theorem packCmd_opcode_inj {op op' : BitVec 4} : packCmd op 0 0 = packCmd op' 0 0 ↔ op = op' :=
  ⟨fun same => by simpa using congrArg opField same, fun same => by rw [same]⟩

/-- The pattern of a command row: `cmd_valid` and the opcode (R58). -/
def commandPattern (op : BitVec 4) : Stim := { Stim.quiet with sw := 0, cmdValid := true, cmd := packCmd op 0 0 }

/-- The mask of the command rows up to 0x7 looks at `rst`, `cmd_valid` and the opcode. -/
theorem and_commandMask_iff (v : StimVec) (op : BitVec 4) :
    v &&& 0x21F000 = (commandPattern op).toVector ↔
      (Stim.ofVector v).rst = false ∧ (Stim.ofVector v).cmdValid = true ∧ opField (Stim.ofVector v).cmd = op := by
  rw [and_eq_toVector_iff, ofVector_and, show (Stim.ofVector 0x21F000).cmd = 0xF000 from rfl, and_opcodeMask,
    commandPattern, Stim.mk.injEq, packCmd_opcode_inj]
  simp [Stim.ofVector, Stim.quiet]

/-- The upper bit of the opcode is that of the opcodes from 0x8 on. -/
theorem and_upperOpcodeBit_iff (w : CmdWord) : w &&& 0x8000 = 0x8000 ↔ 8 ≤ (opField w).toNat := by
  have opcodeOnly : w &&& 0x8000 = packCmd (opField w) 0 0 &&& 0x8000 := by
    rw [← and_opcodeMask, BitVec.and_assoc]
    rfl
  rw [opcodeOnly]
  generalize opField w = op
  revert op
  decide

/-- The mask of the row of 0x8 to 0xF looks at `rst`, `cmd_valid` and the opcode's upper bit. -/
theorem and_reservedMask_iff (v : StimVec) :
    v &&& 0x218000 = (commandPattern 8).toVector ↔
      (Stim.ofVector v).rst = false ∧ (Stim.ofVector v).cmdValid = true ∧
        8 ≤ (opField (Stim.ofVector v).cmd).toNat := by
  rw [and_eq_toVector_iff, ofVector_and, show (Stim.ofVector 0x218000).cmd = 0x8000 from rfl, commandPattern,
    Stim.mk.injEq, show packCmd 8 0 0 = 0x8000 from rfl, and_upperOpcodeBit_iff]
  simp [Stim.ofVector, Stim.quiet]

/-- The fields of a vector with `rst` and strobes alone. -/
def strobeFields (rst refreshStb tickStb : Bool) : Stim :=
  { Stim.quiet with rst := rst, refreshStb := refreshStb, tickStb := tickStb, sw := 0 }

/-- A mask of `rst` and strobes compares these and nothing else. -/
theorem and_strobeMask_iff (v : StimVec) (rst refreshStb tickStb rst' refreshStb' tickStb' : Bool) :
    v &&& (strobeFields rst refreshStb tickStb).toVector = (strobeFields rst' refreshStb' tickStb').toVector ↔
      ((Stim.ofVector v).rst && rst) = rst' ∧ ((Stim.ofVector v).refreshStb && refreshStb) = refreshStb' ∧
        ((Stim.ofVector v).tickStb && tickStb) = tickStb' := by
  rw [and_eq_toVector_iff, ofVector_and, ofVector_toVector]
  simp [strobeFields, Stim.quiet]

/-- A vector matches a row exactly if its fields ask for it. -/
theorem matches_row_iff (v : StimVec) (i : Instr) :
    v &&& i.row.mask = i.row.pattern ↔ asksFor (Stim.ofVector v) i := by
  cases i with
  | reset => exact (and_strobeMask_iff v true false false true false false).trans (by simp [asksFor])
  | refresh => exact (and_strobeMask_iff v true true false false true false).trans (by simp [asksFor])
  | tick | waitcheck => exact (and_strobeMask_iff v true false true false false true).trans (by simp [asksFor])
  | commitstep => exact (and_strobeMask_iff v true false false false false false).trans (by simp [asksFor])
  | nop => exact and_commandMask_iff v 0
  | classify ch => exact and_commandMask_iff v 1
  | delay n => exact and_commandMask_iff v 2
  | rdtick => exact and_commandMask_iff v 3
  | wrpend slot b => exact and_commandMask_iff v 4
  | commit => exact and_commandMask_iff v 5
  | setdim d => exact and_commandMask_iff v 6
  | reserved7 => exact and_commandMask_iff v 7
  | reserved8F op => exact and_reservedMask_iff v

/-- Every operation's row stands in the table. -/
theorem row_mem_opTable (i : Instr) : i.row ∈ opTable := by
  cases i <;> simp [opTable, Instr.row]

/-- Every row of the table is the row of some operation. -/
theorem exists_row_of_mem_opTable {r : OpRow} (inTable : r ∈ opTable) : ∃ i : Instr, i.row = r := by
  have rows : opTable = [Instr.reset, .refresh, .tick 0, .waitcheck, .commitstep, .nop, .classify 0, .delay 0, .rdtick,
      .wrpend 0 0, .commit, .setdim 0, .reserved7, .reserved8F 0].map Instr.row := rfl
  rw [rows, List.mem_map] at inTable
  obtain ⟨i, -, row⟩ := inTable
  exact ⟨i, row⟩

/-- Settles O9: matching a row and decoding to one of its operations are both the same question to the vector's fields. -/
theorem tableRowsMatchTheDecoder : Obligations.TableRowsMatchTheDecoder := by
  unfold Obligations.TableRowsMatchTheDecoder
  refine ⟨fun v i decoded => ⟨row_mem_opTable i, (matches_row_iff v i).mpr (asksFor_of_mem decoded)⟩, ?complete⟩
  intro v r inTable matched
  obtain ⟨i, rfl⟩ := exists_row_of_mem_opTable inTable
  exact exists_mem_of_asksFor ((matches_row_iff v i).mp matched)

/-! ### Trace lines -/

/-- A line of one item other than IDLE is well formed if its item is: it holds one command and one SW item at most. -/
theorem wf_singleton {item : TraceItem} (inRange : item.wf = true) (notIdle : item ≠ .idle) :
    TraceLine.wf [item] = true := by
  have oneCommand : TraceLine.oneCommand [item] = true := decide_eq_true List.countP_le_length
  have oneSw : TraceLine.oneSw [item] = true := decide_eq_true List.countP_le_length
  have idleAlone : TraceLine.idleAlone [item] = true := by simp [TraceLine.idleAlone, notIdle.symm]
  simp [TraceLine.wf, inRange, oneCommand, oneSw, idleAlone]

/-- An immediate in range is or-ed into a packed word as it stands (R56). -/
theorem packCmd_ofNat (op a : BitVec 4) {n : Nat} (small : n < 256) :
    packCmd op a (BitVec.ofNat 8 n) = packCmd op a 0 ||| BitVec.ofNat 16 n := by
  have small' : n < 2 ^ 16 := small.trans (by decide)
  apply BitVec.eq_of_toNat_eq
  simp only [packCmd, BitVec.toNat_or, BitVec.toNat_append, BitVec.ofNat_eq_ofNat, BitVec.toNat_ofNat,
    Nat.mod_eq_of_lt small, Nat.mod_eq_of_lt small', Nat.zero_mod, Nat.or_zero]

/-- The word a trace item writes for operands in range is the encoder's word of its command (R65, R56). -/
theorem setItem_command {item : TraceItem} {i : Instr} (f : Stim) (inRange : item.wf = true)
    (command : itemCommand item = some i) :
    i.isCommand = true ∧ setItem f item = { f with cmdValid := true, cmd := encodeCmd i } := by
  cases item with
  | reset | refresh | tick | sw | idle => cases command
  | nop | rdtick | commit => cases command; exact ⟨rfl, rfl⟩
  | classify ch =>
    cases command
    have small : ch < 2 := of_decide_eq_true inRange
    refine ⟨rfl, ?_⟩
    interval_cases ch <;> rfl
  | delay n =>
    cases command
    have small : n < 256 := of_decide_eq_true inRange
    exact ⟨rfl, congrArg (fun w => { f with cmdValid := true, cmd := w }) (packCmd_ofNat 2 0 small).symm⟩
  | setdim d =>
    cases command
    have small : d < 256 := of_decide_eq_true inRange
    exact ⟨rfl, congrArg (fun w => { f with cmdValid := true, cmd := w }) (packCmd_ofNat 6 0 small).symm⟩
  | wrpend slot v =>
    cases command
    obtain ⟨smallSlot, small⟩ : slot < 4 ∧ v < 256 := by simpa [TraceItem.wf] using inRange
    have slotWord : 0x4000 ||| BitVec.ofNat 16 slot <<< 8 = packCmd 4 ((BitVec.ofNat 2 slot).setWidth 4) 0 := by
      interval_cases slot <;> rfl
    refine ⟨rfl, congrArg (fun w => { f with cmdValid := true, cmd := w }) ?_⟩
    rw [slotWord]
    exact (packCmd_ofNat 4 _ small).symm

/-- Settles O11: the item is in range, so its line is well formed and sets exactly the fields of the encoded command; that
vector's selection is the round trip of commands. -/
theorem commandLinesAssemble : Obligations.CommandLinesAssemble := by
  unfold Obligations.CommandLinesAssemble
  intro item i inRange command
  obtain ⟨isCommand, fields⟩ := setItem_command Stim.quiet inRange command
  have notIdle : item ≠ .idle := by rintro rfl; cases command
  refine ⟨?assembles, selected_encode_command isCommand⟩
  rw [assembleLine, if_pos (wf_singleton inRange notIdle), encode, encodeFields_command isCommand, ← fields]
  rfl

/-! ### The host-port actions of an instant -/

/-- No command is internal to the tick or the commit, and none is RESET. -/
theorem ne_of_isCommand {i : Instr} (command : i.isCommand = true) :
    i ≠ .commitstep ∧ i ≠ .waitcheck ∧ i ≠ .reset := by
  refine ⟨?_, ?_, ?_⟩ <;> rintro rfl <;> cases command

/-- Whatever word is presented, it decodes to a command. -/
theorem isCommand_decodeCmd (w : CmdWord) : (decodeCmd w).isCommand = true := by
  have opcode := hasOpcode_decodeCmd w
  revert opcode
  cases decodeCmd w with
  | nop | classify | delay | rdtick | wrpend | commit | setdim | reserved7 | reserved8F => exact fun _ => rfl
  | reset | refresh | tick | waitcheck | commitstep => exact False.elim

/-- Settles O14: a reset line selects RESET alone. Any other line selects strobes, which are no host-port actions, and
then a command if the instant began idle, or COMMITSTEP if it began in COMMIT. -/
theorem atMostOneHostPortAction : Obligations.AtMostOneHostPortAction := by
  unfold Obligations.AtMostOneHostPortAction
  intro hs0 v
  cases rst : (Stim.ofVector v).rst with
  | true =>
    rw [selected_rst rst]
    refine ⟨by decide, fun i only => ?_⟩
    obtain rfl := List.mem_singleton.mp only
    exact ⟨nofun, nofun, nofun, fun _ => rfl⟩
  | false =>
    rw [selected_phases rst]
    refine ⟨?count, fun i among => ?condition⟩
    case count =>
      have strobe : (if (Stim.ofVector v).refreshStb then [Instr.refresh] else []).countP Instr.isHostPort = 0 := by
        split <;> rfl
      have tick : (if (Stim.ofVector v).tickStb then
          .tick (Stim.ofVector v).sw :: (if hs0 = .wait then [.waitcheck] else []) else []).countP
            Instr.isHostPort = 0 := by
        split
        · split <;> rfl
        · rfl
      rw [List.append_assoc, List.countP_append, List.countP_append, strobe, tick, Nat.zero_add]
      refine List.countP_le_length.trans ?_
      cases hs0 with
      | idle => cases (Stim.ofVector v).cmdValid <;> simp
      | wait | commit | unused => simp
    case condition =>
      simp only [List.mem_append, List.mem_ite_nil_right, List.mem_cons, List.not_mem_nil, or_false] at among
      obtain ((⟨-, rfl⟩ | ⟨-, rfl | ⟨waits, rfl⟩⟩) | ⟨⟨idle, -⟩, rfl⟩) | ⟨commits, rfl⟩ := among
      · exact ⟨nofun, nofun, nofun, nofun⟩
      · exact ⟨nofun, nofun, nofun, nofun⟩
      · exact ⟨nofun, nofun, fun _ => waits, nofun⟩
      · obtain ⟨notStep, notCheck, notReset⟩ := ne_of_isCommand (isCommand_decodeCmd (Stim.ofVector v).cmd)
        exact ⟨fun _ => idle, fun step => absurd step notStep, fun check => absurd check notCheck,
          fun reset => absurd reset notReset⟩
      · exact ⟨nofun, fun _ => commits, nofun, nofun⟩

end Sys2Proof.Proofs
end

section
/-! PROOF. What each operation writes and what it leaves alone: the frames of the operations, the table of rights of
`10_state.md` section 6, completeness, and the commuting periodic agents. -/

namespace Sys2Proof.Proofs
open Sys2Proof.Machine

/-! ### Frames of the shared operations -/

/-- A guarded command has every property that its effect on an idle port and the unchanged state have. -/
theorem whenIdle_induction {P : State → Prop} {effect : State → State} {s : State}
    (acted : s.hs = .idle → P (effect s)) (unchanged : P s) : P (whenIdle effect s) := by
  unfold whenIdle
  split
  next idle => exact acted idle
  next => exact unchanged

theorem answerOnly_frame (s : State) : answerOnly s = { s with rsp := (answerOnly s).rsp } :=
  whenIdle_induction (P := fun t => t = { s with rsp := t.rsp }) (fun _ => rfl) rfl

theorem startWait_frame (n v : Byte) (s : State) :
    startWait n v s =
      { s with
        hs := (startWait n v s).hs
        waitTarget := (startWait n v s).waitTarget
        rspHold := (startWait n v s).rspHold
        rsp := (startWait n v s).rsp } := by
  obtain ⟨-, answered⟩ | ⟨-, waiting⟩ := startWait_cases n v s
  · rw [answered]; rfl
  · rw [waiting]

theorem checkWait_frame (s : State) : checkWait s = { s with hs := (checkWait s).hs, rsp := (checkWait s).rsp } := by
  obtain ⟨-, ended⟩ | ⟨-, unchanged⟩ := checkWait_cases s
  · rw [ended]; rfl
  · rw [unchanged]

theorem commitOneSlot_frame (s : State) :
    commitOneSlot s =
      { s with
        hs := (commitOneSlot s).hs
        commitIdx := (commitOneSlot s).commitIdx
        committed := (commitOneSlot s).committed
        rsp := (commitOneSlot s).rsp } := by
  obtain ⟨-, ended⟩ | ⟨-, advanced⟩ := commitOneSlot_cases s
  · rw [ended]; rfl
  · rw [advanced]; rfl

/-- REFRESH writes its own four registers and nothing else (R75). -/
theorem serveDigit_frame (s : State) :
    serveDigit s =
      { s with
        cursor := (serveDigit s).cursor
        frameCounter := (serveDigit s).frameCounter
        seg := (serveDigit s).seg
        digEn := (serveDigit s).digEn } := by
  obtain ⟨-, served⟩ | ⟨-, served⟩ := serveDigit_cases s
  · rw [served]
  · rw [served]

/-! ### Frames of the operations -/

/-- WAITCHECK changes nothing where no wait is in progress. -/
theorem exec_waitcheck_elsewhere {s : State} (notWaiting : s.hs ≠ .wait) : exec .waitcheck s = .next s :=
  congrArg _ (if_neg notWaiting)

/-- COMMITSTEP changes nothing where no commit is in progress. -/
theorem exec_commitstep_elsewhere {s : State} (notCommitting : s.hs ≠ .commit) : exec .commitstep s = .next s :=
  congrArg _ (if_neg notCommitting)

/-- COMMIT writes only what its setting of COMMIT_ATOMIC lets it write (R99, R101). -/
theorem exec_commit_frame {s t : State} (h : exec .commit s = .next t) :
    t = { s with hs := t.hs, commitIdx := t.commitIdx, committed := t.committed, rsp := t.rsp } ∧
      (s.cfg.commitAtomic = false → t.committed = s.committed ∧ t.rsp = s.rsp) ∧
      (s.cfg.commitAtomic = true → t.hs = s.hs ∧ t.commitIdx = s.commitIdx) := by
  by_cases idle : s.hs = .idle
  · rw [exec_commit_idle idle] at h
    cases atomic : s.cfg.commitAtomic <;> rw [atomic] at h <;> cases h <;> simp [beginCommit, commitAllSlots_eq]
  · rw [busyCommandsAreIgnored.1 .commit s rfl idle] at h
    cases h
    exact ⟨rfl, fun _ => ⟨rfl, rfl⟩, fun _ => ⟨rfl, rfl⟩⟩

/-- Settles O48: a guarded command changes nothing or has its effect, and each effect, like each internal operation, is
an update of the listed registers; a buffer write leaves the slots it does not name alone (R44). -/
theorem hostOperationFrames : Obligations.HostOperationFrames := by
  unfold Obligations.HostOperationFrames
  intro i s t h
  cases i with
  | reset => cases h; exact ⟨rfl, rfl, rfl, rfl⟩
  | refresh =>
    obtain ⟨-, rfl⟩ := exec_refresh_next h
    exact serveDigit_frame s
  | tick sw => cases h; exact sampleAndAdvance_eq sw s
  | nop => cases h; exact answerOnly_frame s
  | reserved7 => cases h; exact answerOnly_frame s
  | reserved8F op => cases h; exact answerOnly_frame s
  | rdtick =>
    cases h
    exact whenIdle_induction (P := fun t => t = { s with rsp := t.rsp }) (fun _ => rfl) rfl
  | delay n =>
    cases h
    exact whenIdle_induction
      (P := fun t => t = { s with hs := t.hs, waitTarget := t.waitTarget, rspHold := t.rspHold, rsp := t.rsp })
      (fun _ => startWait_frame n 0x00 s) rfl
  | classify ch =>
    cases h
    exact whenIdle_induction
      (P := fun t => t = { s with hs := t.hs, waitTarget := t.waitTarget, rspHold := t.rspHold, rsp := t.rsp })
      (fun _ => startWait_frame _ _ s) rfl
  | setdim d =>
    cases h
    exact whenIdle_induction (P := fun t => t = { s with dimDivisor := t.dimDivisor, rsp := t.rsp })
      (fun _ => rfl) rfl
  | wrpend slot v =>
    cases h
    exact whenIdle_induction
      (P := fun t => t = { s with pending := t.pending, rsp := t.rsp } ∧ ∀ j, j ≠ slot → readPend t j = readPend s j)
      (fun _ => ⟨rfl, fun _ other => s.pending.get_set_other v other.symm⟩) ⟨rfl, fun _ _ => rfl⟩
  | commit => exact exec_commit_frame h
  | waitcheck =>
    by_cases waits : s.hs = .wait
    · rw [exec_waitcheck waits] at h
      cases h
      exact checkWait_frame s
    · rw [exec_waitcheck_elsewhere waits] at h
      cases h
      rfl
  | commitstep =>
    by_cases committing : s.hs = .commit
    · rw [exec_commitstep committing] at h
      cases h
      refine ⟨commitOneSlot_frame s, fun j other => ?_⟩
      rw [readComm_commitOneSlot, readComm_copySlot_other s other.symm]
    · rw [exec_commitstep_elsewhere committing] at h
      cases h
      exact ⟨rfl, fun _ _ => rfl⟩

/-- Settles O21: the frame of REFRESH, register by register. -/
theorem refreshLeavesTheRestAlone : Obligations.RefreshLeavesTheRestAlone := by
  unfold Obligations.RefreshLeavesTheRestAlone
  intro s t h
  have frame : t = { s with cursor := t.cursor, frameCounter := t.frameCounter, seg := t.seg, digEn := t.digEn } :=
    hostOperationFrames .refresh s t h
  rw [frame]
  exact ⟨rfl, fun _ => rfl, fun _ => rfl, rfl, fun _ => rfl, fun _ => rfl, rfl, rfl, rfl, rfl, rfl, rfl, rfl, rfl⟩

/-- Settles O26: the frame of TICK, register by register. -/
theorem tickLeavesTheRestAlone : Obligations.TickLeavesTheRestAlone := by
  unfold Obligations.TickLeavesTheRestAlone
  intro s t sw h
  have frame : t = { s with tickCounter := t.tickCounter, history := t.history, pressCounter := t.pressCounter } :=
    hostOperationFrames (.tick sw) s t h
  rw [frame]
  exact ⟨rfl, rfl, rfl, rfl, rfl, fun _ => rfl, fun _ => rfl, rfl, rfl, rfl, rfl, rfl, rfl, rfl, rfl⟩

/-- Settles O47: the frame of an operation leaves alone every register that does not name it among its writers. -/
theorem singleWriterPerField : Obligations.SingleWriterPerField := by
  unfold Obligations.SingleWriterPerField
  intro i s t h notReset
  have frame := hostOperationFrames i s t h
  cases i with
  | reset => exact absurd rfl notReset
  | commit =>
    obtain ⟨frame, stepwise, atomic⟩ := frame
    have committed : s.cfg.commitAtomic = false → t.committed = s.committed := fun off => (stepwise off).1
    rw [frame]
    simpa using committed
  | wrpend slot v => rw [frame.1]; simp
  | commitstep => rw [frame.1]; simp
  | refresh | tick | waitcheck | nop | classify | delay | rdtick | setdim | reserved7 | reserved8F =>
    rw [frame]
    simp

/-! ### Completeness -/

/-- Every operation but REFRESH answers a next state (R110). -/
theorem exec_completes {i : Instr} (s : State) (notRefresh : i ≠ .refresh) : ∃ t, exec i s = .next t := by
  cases i with
  | refresh => exact absurd rfl notRefresh
  | reset | tick | waitcheck | commitstep | nop | classify | delay | rdtick | wrpend | commit | setdim | reserved7
    | reserved8F => exact ⟨_, rfl⟩

/-- Settles O19: only REFRESH can fail to answer, and it faults exactly at divisor 0. -/
theorem everyOperationCompletes : Obligations.EveryOperationCompletes := by
  unfold Obligations.EveryOperationCompletes
  refine fun i s => ⟨fun defined => ?answers, fun isRefresh zero => ?faults⟩
  case faults => exact isRefresh ▸ exec_refresh_zero zero
  case answers =>
    by_cases isRefresh : i = .refresh
    · have divisor : s.dimDivisor ≠ 0 := defined.resolve_left (not_not_intro isRefresh)
      exact ⟨serveDigit s, isRefresh ▸ exec_refresh divisor⟩
    · exact exec_completes s isRefresh

/-! ### The periodic agents commute -/

/-- REFRESH reads no register that TICK writes, and TICK none that REFRESH writes. -/
theorem sampleAndAdvance_serveDigit (sw : BitVec 2) (s : State) :
    sampleAndAdvance sw (serveDigit s) = serveDigit (sampleAndAdvance sw s) := by
  obtain ⟨isLit, served⟩ | ⟨notLit, served⟩ := serveDigit_cases s
  · have isLit' : lit (sampleAndAdvance sw s).cfg (sampleAndAdvance sw s).frameCounter
        (sampleAndAdvance sw s).dimDivisor = true := isLit
    rw [served, serveDigit, isLit']
    rfl
  · have notLit' : lit (sampleAndAdvance sw s).cfg (sampleAndAdvance sw s).frameCounter
        (sampleAndAdvance sw s).dimDivisor = false := notLit
    rw [served, serveDigit, notLit']
    rfl

/-- Settles O49: TICK leaves the divisor alone, so both orders fault at divisor 0; otherwise both effects are updates of
disjoint registers. -/
theorem refreshAndTickCommute : Obligations.RefreshAndTickCommute := by
  unfold Obligations.RefreshAndTickCommute
  intro s sw
  by_cases zero : s.dimDivisor = 0
  · have zero' : (sampleAndAdvance sw s).dimDivisor = 0 := zero
    rw [exec_refresh_zero zero, exec_tick, andThen_fault, andThen_next, exec_refresh_zero zero']
  · have nonzero : (sampleAndAdvance sw s).dimDivisor ≠ 0 := zero
    rw [exec_refresh zero, exec_tick, andThen_next, andThen_next, exec_refresh nonzero, exec_tick,
      sampleAndAdvance_serveDigit]

end Sys2Proof.Proofs
end

section
/-! PROOF. An instant as one function of its start: what a step answers, phase by phase, for a placed line and for a free
vector alike; the host-state table, responses, and the order of the phases (`30_encoding.md` section 5, `45_system.md`,
`60_exceptions.md` section 3). -/

namespace Sys2Proof.Proofs
open Sys2Proof.Machine

/-! ### The phases as functions -/

/-- The refresh phase of R67. -/
def refreshPhase (v : StimVec) (s : State) : State := if v.getLsbD 20 then serveDigit s else s

/-- The tick phase of R67, without WAITCHECK. -/
def tickPhase (v : StimVec) (s : State) : State :=
  if v.getLsbD 19 then sampleAndAdvance (v.extractLsb' 17 2) s else s

/-- The periodic agents' part of an instant. -/
def agentPhases (v : StimVec) (s : State) : State := tickPhase v (refreshPhase v s)

/-- The effect of a command on an idle host port. -/
def commandEffect : Instr → State → State
  | .nop => emit 0x00
  | .classify ch => classifyAndGuard ch
  | .delay n => startWait n 0x00
  | .rdtick => fun s => emit s.tickCounter s
  | .wrpend slot v => fun s => emit 0x00 (writePend slot v s)
  | .commit => fun s => if s.cfg.commitAtomic then commitAllSlots s else beginCommit s
  | .setdim d => fun s => emit 0x00 { s with dimDivisor := clampDivisor s.cfg d }
  | .reserved7 => emit 0x00
  | .reserved8F _ => emit 0x00
  | .reset => id
  | .refresh => id
  | .tick _ => id
  | .waitcheck => id
  | .commitstep => id

/-- The host port's part of an instant that begins with host state `hs0`: WAITCHECK, a command or COMMITSTEP (R67). -/
def hostAction (hs0 : HostState) (v : StimVec) (s : State) : State :=
  match hs0 with
  | .idle => if v.getLsbD 16 then commandEffect (decodeCmd (v.extractLsb' 0 16)) s else s
  | .wait => if v.getLsbD 19 then checkWait s else s
  | .commit => commitOneSlot s
  | .unused => s

/-- On an idle host port a command has its effect (R68). -/
theorem exec_command_idle {i : Instr} {s : State} (command : i.isCommand = true) (idle : s.hs = .idle) :
    exec i s = .next (commandEffect i s) := by
  cases i with
  | nop | classify | delay | rdtick | wrpend | commit | setdim | reserved7 | reserved8F =>
    exact congrArg _ (whenIdle_idle _ idle)
  | reset | refresh | tick | waitcheck | commitstep => cases command

/-! ### What each phase leaves alone -/

/-- From `s` to `t` at most the refresh group and the tick group changed. -/
def AgentGroupsOnly (s t : State) : Prop :=
  t = { s with
        cursor := t.cursor, frameCounter := t.frameCounter, seg := t.seg, digEn := t.digEn
        tickCounter := t.tickCounter, history := t.history, pressCounter := t.pressCounter }

/-- From `s` to `t` at most the host group and the response changed. -/
def HostGroupOnly (s t : State) : Prop :=
  t = { s with
        hs := t.hs, dimDivisor := t.dimDivisor, committed := t.committed, pending := t.pending
        waitTarget := t.waitTarget, rspHold := t.rspHold, commitIdx := t.commitIdx, rsp := t.rsp }

theorem AgentGroupsOnly.trans {s t u : State} (first : AgentGroupsOnly s t) (second : AgentGroupsOnly t u) :
    AgentGroupsOnly s u := by
  unfold AgentGroupsOnly at *
  rw [second, first]

/-- The refresh phase writes the refresh group alone. -/
theorem refreshPhase_frame (v : StimVec) (s : State) :
    refreshPhase v s =
      { s with
        cursor := (refreshPhase v s).cursor
        frameCounter := (refreshPhase v s).frameCounter
        seg := (refreshPhase v s).seg
        digEn := (refreshPhase v s).digEn } := by
  unfold refreshPhase
  split
  · exact serveDigit_frame s
  · rfl

/-- The tick phase writes the tick group alone. -/
theorem tickPhase_frame (v : StimVec) (s : State) :
    tickPhase v s =
      { s with
        tickCounter := (tickPhase v s).tickCounter
        history := (tickPhase v s).history
        pressCounter := (tickPhase v s).pressCounter } := by
  unfold tickPhase
  split
  · exact sampleAndAdvance_eq _ s
  · rfl

theorem agentGroupsOnly_agentPhases (v : StimVec) (s : State) : AgentGroupsOnly s (agentPhases v s) :=
  AgentGroupsOnly.trans (t := refreshPhase v s) (by rw [AgentGroupsOnly, refreshPhase_frame])
    (by rw [AgentGroupsOnly, agentPhases, tickPhase_frame])

theorem hostGroupOnly_startWait (n v : Byte) (s : State) : HostGroupOnly s (startWait n v s) := by
  rw [HostGroupOnly, startWait_frame]

/-- A command writes the host group alone. -/
theorem hostGroupOnly_commandEffect (i : Instr) (s : State) : HostGroupOnly s (commandEffect i s) := by
  cases i with
  | classify ch => exact hostGroupOnly_startWait _ _ s
  | delay n => exact hostGroupOnly_startWait n 0x00 s
  | commit =>
    change HostGroupOnly s (if s.cfg.commitAtomic then commitAllSlots s else beginCommit s)
    split <;> rfl
  | nop | rdtick | wrpend | setdim | reserved7 | reserved8F | reset | refresh | tick | waitcheck | commitstep => rfl

/-- The host port's action writes the host group alone. -/
theorem hostGroupOnly_hostAction (hs0 : HostState) (v : StimVec) (s : State) :
    HostGroupOnly s (hostAction hs0 v s) := by
  unfold hostAction
  cases hs0 with
  | idle =>
    dsimp only
    split
    · exact hostGroupOnly_commandEffect _ s
    · rfl
  | wait =>
    dsimp only
    split
    · rw [HostGroupOnly, checkWait_frame]
    · rfl
  | commit =>
    dsimp only
    rw [HostGroupOnly, commitOneSlot_frame]
  | unused => rfl

@[simp] theorem agentPhases_hs (v : StimVec) (s : State) : (agentPhases v s).hs = s.hs := by
  rw [agentGroupsOnly_agentPhases v s]
@[simp] theorem agentPhases_rsp (v : StimVec) (s : State) : (agentPhases v s).rsp = s.rsp := by
  rw [agentGroupsOnly_agentPhases v s]
@[simp] theorem agentPhases_cfg (v : StimVec) (s : State) : (agentPhases v s).cfg = s.cfg := by
  rw [agentGroupsOnly_agentPhases v s]
@[simp] theorem agentPhases_trace (v : StimVec) (s : State) : (agentPhases v s).trace = s.trace := by
  rw [agentGroupsOnly_agentPhases v s]
@[simp] theorem agentPhases_freeIdx (v : StimVec) (s : State) : (agentPhases v s).freeIdx = s.freeIdx := by
  rw [agentGroupsOnly_agentPhases v s]
@[simp] theorem agentPhases_dimDivisor (v : StimVec) (s : State) : (agentPhases v s).dimDivisor = s.dimDivisor := by
  rw [agentGroupsOnly_agentPhases v s]
@[simp] theorem agentPhases_committed (v : StimVec) (s : State) : (agentPhases v s).committed = s.committed := by
  rw [agentGroupsOnly_agentPhases v s]
@[simp] theorem agentPhases_pending (v : StimVec) (s : State) : (agentPhases v s).pending = s.pending := by
  rw [agentGroupsOnly_agentPhases v s]
@[simp] theorem agentPhases_waitTarget (v : StimVec) (s : State) : (agentPhases v s).waitTarget = s.waitTarget := by
  rw [agentGroupsOnly_agentPhases v s]
@[simp] theorem agentPhases_rspHold (v : StimVec) (s : State) : (agentPhases v s).rspHold = s.rspHold := by
  rw [agentGroupsOnly_agentPhases v s]
@[simp] theorem agentPhases_commitIdx (v : StimVec) (s : State) : (agentPhases v s).commitIdx = s.commitIdx := by
  rw [agentGroupsOnly_agentPhases v s]

@[simp] theorem hostAction_cfg (hs0 : HostState) (v : StimVec) (s : State) :
    (hostAction hs0 v s).cfg = s.cfg := by
  rw [hostGroupOnly_hostAction hs0 v s]
@[simp] theorem hostAction_trace (hs0 : HostState) (v : StimVec) (s : State) :
    (hostAction hs0 v s).trace = s.trace := by
  rw [hostGroupOnly_hostAction hs0 v s]
@[simp] theorem hostAction_freeIdx (hs0 : HostState) (v : StimVec) (s : State) :
    (hostAction hs0 v s).freeIdx = s.freeIdx := by
  rw [hostGroupOnly_hostAction hs0 v s]
@[simp] theorem hostAction_seg (hs0 : HostState) (v : StimVec) (s : State) :
    (hostAction hs0 v s).seg = s.seg := by
  rw [hostGroupOnly_hostAction hs0 v s]
@[simp] theorem hostAction_digEn (hs0 : HostState) (v : StimVec) (s : State) :
    (hostAction hs0 v s).digEn = s.digEn := by
  rw [hostGroupOnly_hostAction hs0 v s]
@[simp] theorem hostAction_cursor (hs0 : HostState) (v : StimVec) (s : State) :
    (hostAction hs0 v s).cursor = s.cursor := by
  rw [hostGroupOnly_hostAction hs0 v s]
@[simp] theorem hostAction_frameCounter (hs0 : HostState) (v : StimVec) (s : State) :
    (hostAction hs0 v s).frameCounter = s.frameCounter := by
  rw [hostGroupOnly_hostAction hs0 v s]
@[simp] theorem hostAction_tickCounter (hs0 : HostState) (v : StimVec) (s : State) :
    (hostAction hs0 v s).tickCounter = s.tickCounter := by
  rw [hostGroupOnly_hostAction hs0 v s]
@[simp] theorem hostAction_history (hs0 : HostState) (v : StimVec) (s : State) :
    (hostAction hs0 v s).history = s.history := by
  rw [hostGroupOnly_hostAction hs0 v s]
@[simp] theorem hostAction_pressCounter (hs0 : HostState) (v : StimVec) (s : State) :
    (hostAction hs0 v s).pressCounter = s.pressCounter := by
  rw [hostGroupOnly_hostAction hs0 v s]

/-- The refresh group after the periodic agents is what REFRESH left. -/
theorem agentPhases_refreshGroup (v : StimVec) (s : State) :
    (agentPhases v s).seg = (refreshPhase v s).seg ∧ (agentPhases v s).digEn = (refreshPhase v s).digEn ∧
    (agentPhases v s).cursor = (refreshPhase v s).cursor ∧
    (agentPhases v s).frameCounter = (refreshPhase v s).frameCounter := by
  rw [agentPhases, tickPhase_frame]
  exact ⟨rfl, rfl, rfl, rfl⟩

/-- The tick group after the periodic agents is what TICK alone leaves, since it reads no register of REFRESH. -/
theorem agentPhases_tickGroup (v : StimVec) (s : State) :
    (agentPhases v s).tickCounter = (tickPhase v s).tickCounter ∧
    (agentPhases v s).history = (tickPhase v s).history ∧
    (agentPhases v s).pressCounter = (tickPhase v s).pressCounter := by
  rw [agentPhases, refreshPhase_frame]
  unfold tickPhase
  split <;> exact ⟨rfl, rfl, rfl⟩

/-! ### What a step answers -/

/-- An instant with `rst = 1` is RESET alone (R67, R105). -/
theorem step_reset {s : State} (rst : (nextStim s).getLsbD 21 = true) :
    step s = .next (resetRegisters (beginInstant s)) := by
  rw [step, instant, selected_rst rst, runOps_singleton, exec_reset]

/-- Going on from an outcome without doing anything. -/
@[simp] theorem andThen_next_right (o : Host.Outcome State Fault Refusal) : andThen o Host.Outcome.next = o := by
  cases o <;> rfl

/-- The refresh phase, where its dimming phase is defined. -/
theorem runOps_refreshPhase {v : StimVec} {s : State} (divisor : v.getLsbD 20 = true → s.dimDivisor ≠ 0) :
    runOps (if (Stim.ofVector v).refreshStb then [.refresh] else []) s = .next (refreshPhase v s) := by
  rw [runOps_if_singleton]
  unfold refreshPhase
  by_cases strobe : v.getLsbD 20 = true
  · exact (if_pos strobe).trans ((exec_refresh (divisor strobe)).trans (congrArg _ (if_pos strobe).symm))
  · exact (if_neg strobe).trans (congrArg _ (if_neg strobe).symm)

/-- The phases after the refresh, from a state in the host state that the instant began with. -/
theorem runOps_afterRefresh (v : StimVec) (s : State) :
    andThen
      (runOps (if (Stim.ofVector v).tickStb then
        .tick (Stim.ofVector v).sw :: (if s.hs = .wait then [.waitcheck] else []) else []) s)
      (runOps ((if s.hs = .idle ∧ (Stim.ofVector v).cmdValid = true then [decodeCmd (Stim.ofVector v).cmd] else []) ++
        (if s.hs = .commit then [.commitstep] else []))) = .next (hostAction s.hs v (tickPhase v s)) := by
  have keepsHs : (tickPhase v s).hs = s.hs := by rw [tickPhase_frame]
  have tick : (if (Stim.ofVector v).tickStb then
      andThen (exec (.tick (Stim.ofVector v).sw) s) Host.Outcome.next else .next s) = .next (tickPhase v s) := by
    unfold tickPhase
    exact (apply_ite Host.Outcome.next _ _ _).symm
  rw [runOps_tickPhase, runOps_hostPhase]
  cases hs : s.hs with
  | idle =>
    rw [hs] at keepsHs
    simp only [reduceCtorEq, if_false, true_and, tick, andThen_next, exec_command_idle (isCommand_decodeCmd _) keepsHs]
    exact (apply_ite Host.Outcome.next _ _ _).symm
  | wait =>
    rw [hs] at keepsHs
    simp only [reduceCtorEq, if_false, false_and, if_true, hostAction]
    cases strobe : (Stim.ofVector v).tickStb with
    | false =>
      have noStrobe : v.getLsbD 19 = false := strobe
      rw [noStrobe, tickPhase, noStrobe]
      rfl
    | true =>
      have strobe' : v.getLsbD 19 = true := strobe
      have ticked : tickPhase v s = sampleAndAdvance (v.extractLsb' 17 2) s := if_pos strobe'
      rw [strobe', if_pos rfl, if_pos rfl, ticked, ← exec_waitcheck (ticked ▸ keepsHs), exec_tick]
      exact andThen_next_right _
  | commit =>
    rw [hs] at keepsHs
    simp only [reduceCtorEq, if_false, false_and, if_true, tick, andThen_next, exec_commitstep keepsHs]
    rfl
  | unused =>
    simp only [reduceCtorEq, if_false, false_and, tick, andThen_next]
    rfl

/-- An instant without reset: the agents, then the host port (R67). Its REFRESH needs a divisor other than 0. -/
theorem step_quiet {s : State} (noReset : (nextStim s).getLsbD 21 = false)
    (divisor : (nextStim s).getLsbD 20 = true → s.dimDivisor ≠ 0) :
    step s = .next (hostAction s.hs (nextStim s) (agentPhases (nextStim s) (beginInstant s))) := by
  have refreshed : (refreshPhase (nextStim s) (beginInstant s)).hs = s.hs := by rw [refreshPhase_frame, beginInstant_hs]
  rw [step, instant, selected_phases noReset, List.append_assoc, runOps_append, runOps_append, andThen_assoc,
    runOps_refreshPhase (fun strobe => by simpa using divisor strobe), andThen_next, ← refreshed]
  exact runOps_afterRefresh _ _

/-- An instant with a REFRESH at divisor 0 does not answer, so one that answers had another divisor. -/
theorem divisor_of_step {s t : State} (h : step s = .next t) (noReset : (nextStim s).getLsbD 21 = false)
    (refresh : (nextStim s).getLsbD 20 = true) : s.dimDivisor ≠ 0 := by
  have strobe : (Stim.ofVector (nextStim s)).refreshStb = true := refresh
  rw [step, instant, selected_phases noReset, strobe, if_pos rfl, List.append_assoc, List.append_assoc,
    List.singleton_append, runOps_cons] at h
  obtain ⟨m, served, -⟩ := andThen_eq_next h
  simpa using (exec_refresh_next served).1

/-- All that a step can answer. -/
theorem step_cases {s t : State} (h : step s = .next t) :
    ((nextStim s).getLsbD 21 = true ∧ t = resetRegisters (beginInstant s)) ∨
    ((nextStim s).getLsbD 21 = false ∧
      t = hostAction s.hs (nextStim s) (agentPhases (nextStim s) (beginInstant s))) := by
  cases rst : (nextStim s).getLsbD 21 with
  | true =>
    rw [step_reset rst] at h
    cases h
    exact .inl ⟨rfl, rfl⟩
  | false =>
    rw [step_quiet rst (divisor_of_step h rst)] at h
    cases h
    exact .inr ⟨rfl, rfl⟩

/-- Settles O12: the one selected operation is the whole instant. -/
theorem stepRunsTheSelectedOperation : Obligations.StepRunsTheSelectedOperation := by
  unfold Obligations.StepRunsTheSelectedOperation
  intro s v rest i placed alone
  rw [step_trace v rest s placed, alone, runOps_singleton]

/-- Settles O18: neither the agents nor the host port nor RESET write the model's own fields, so they are as the taking of
the line left them. -/
theorem stepTakesOneLine : Obligations.StepTakesOneLine := by
  unfold Obligations.StepTakesOneLine
  intro s t h
  have counted : (beginInstant s).freeIdx = s.freeIdx + (if s.trace = [] then 1 else 0) := by
    unfold beginInstant
    split
    next free => simp [free]
    next placed => simp [placed]
  obtain ⟨-, rfl⟩ | ⟨-, rfl⟩ := step_cases h
  · exact ⟨beginInstant_cfg s, beginInstant_trace s, counted⟩
  · simp [counted]

/-- A placed line is the next stimulus vector. -/
theorem nextStim_placed {s : State} {v : StimVec} {rest : List StimVec} (placed : s.trace = v :: rest) :
    nextStim s = v := by
  rw [nextStim, placed]

/-- Settles O4: a reset line is RESET alone, whose table holds no response, an idle port and cleared buffers; the fields of
the model's own are as the taking of the line left them. -/
theorem resetAbandonsTheCommandInProgress : Obligations.ResetAbandonsTheCommandInProgress := by
  unfold Obligations.ResetAbandonsTheCommandInProgress
  intro s v rest placed rst
  have taken : beginInstant s = { s with rsp := none, trace := rest } := by rw [beginInstant, placed]
  rw [← nextStim_placed placed] at rst
  refine ⟨resetRegisters (beginInstant s), step_reset rst, ?_⟩
  rw [taken]
  exact ⟨rfl, rfl, rfl, rfl, rfl, slotArray_get_of_uniform 0x00, slotArray_get_of_uniform 0x00⟩

/-! ### The host state and the response -/

/-- STARTWAIT leaves the port idle, with an answer, or waiting without one (R85). -/
theorem startWait_hs {s : State} (n v : Byte) (idle : s.hs = .idle) :
    (startWait n v s).hs = if n = 0 then .idle else .wait := by
  obtain ⟨zero, answered⟩ | ⟨nonzero, waiting⟩ := startWait_cases n v s
  · rw [answered, if_pos zero, emit_hs, idle]
  · rw [waiting, if_neg nonzero]

/-- The host state a command leaves (R108). -/
theorem commandEffect_hs {s : State} (i : Instr) (idle : s.hs = .idle) :
    (commandEffect i s).hs =
      match i with
      | .delay n => if n = 0 then .idle else .wait
      | .classify ch => if guardTicks s.cfg (classify s.cfg (readCnt s ch)) = 0 then .idle else .wait
      | .commit => if s.cfg.commitAtomic then .idle else .commit
      | _ => .idle := by
  cases i with
  | classify ch => exact startWait_hs _ _ idle
  | delay n => exact startWait_hs n 0x00 idle
  | commit =>
    change (if s.cfg.commitAtomic then commitAllSlots s else beginCommit s).hs = _
    split
    · exact idle
    · rfl
  | nop | rdtick | wrpend | setdim | reserved7 | reserved8F | reset | refresh | tick | waitcheck | commitstep =>
    exact idle

/-- WAITCHECK's host state (R108). -/
theorem checkWait_hs {s : State} (waits : s.hs = .wait) :
    (checkWait s).hs = if s.tickCounter = s.waitTarget then .idle else .wait := by
  obtain ⟨reached, ended⟩ | ⟨notReached, unchanged⟩ := checkWait_cases s
  · rw [ended, if_pos reached]; rfl
  · rw [unchanged, if_neg notReached, waits]

/-- COMMITSTEP's host state (R108). -/
theorem commitOneSlot_hs {s : State} (commits : s.hs = .commit) :
    (commitOneSlot s).hs = if s.commitIdx = 3 then .idle else .commit := by
  obtain ⟨last, ended⟩ | ⟨notLast, advanced⟩ := commitOneSlot_cases s
  · rw [ended, if_pos last]
  · rw [advanced, if_neg notLast]; exact commits

/-- The tick counter an instant's WAITCHECK compares, at a tick strobe. -/
theorem agentPhases_tickCounter {v : StimVec} (s : State) :
    (agentPhases v s).tickCounter = if v.getLsbD 19 then s.tickCounter + 1 else s.tickCounter := by
  rw [(agentPhases_tickGroup v s).1, tickPhase]
  exact apply_ite State.tickCounter _ _ _

/-- Settles O17: the host port's action is the only phase of an instant without reset that writes `hs`, so each row of the
table is the lemma about its operation, on the registers that the TICK before it left. -/
theorem hostStateTransitionTable : Obligations.HostStateTransitionTable := by
  unfold Obligations.HostStateTransitionTable
  intro s t h
  obtain ⟨rst, rfl⟩ | ⟨rst, rfl⟩ := step_cases h
  · rw [if_pos rst]; rfl
  · rw [if_neg (Bool.eq_false_iff.mp rst)]
    have before : (agentPhases (nextStim s) (beginInstant s)).hs = s.hs := by simp
    cases hs : s.hs with
    | idle =>
      rw [hs] at before
      by_cases presented : (nextStim s).getLsbD 16 = true
      · have effect := commandEffect_hs (decodeCmd ((nextStim s).extractLsb' 0 16)) before
        simp only [readCnt, hostAction_pressCounter, agentPhases_cfg, beginInstant_cfg] at effect ⊢
        rw [hostAction, if_pos presented, if_pos presented]
        exact effect
      · rw [hostAction, if_neg presented, if_neg presented, before]
    | wait =>
      rw [hs] at before
      by_cases strobe : (nextStim s).getLsbD 19 = true
      · rw [hostAction, if_pos strobe, checkWait_hs before, agentPhases_tickCounter, if_pos strobe]
        simp [strobe]
      · rw [hostAction, if_neg strobe, before]
        exact (if_neg fun both => strobe both.1).symm
    | commit =>
      rw [hs] at before
      rw [hostAction, commitOneSlot_hs before]
      simp
    | unused => rw [hostAction, before, hs]

/-- From an idle port, a command answers exactly if it leaves the port idle (R61). -/
theorem commandEffect_answers {i : Instr} {s : State} (command : i.isCommand = true) (silent : s.rsp = none)
    (idle : s.hs = .idle) : (commandEffect i s).rsp.isSome = true ↔ (commandEffect i s).hs = .idle := by
  have wait (n v : Byte) : (startWait n v s).rsp.isSome = true ↔ (startWait n v s).hs = .idle := by
    obtain ⟨-, answered⟩ | ⟨-, waiting⟩ := startWait_cases n v s
    · simp [answered, idle]
    · simp [waiting, silent]
  cases i with
  | classify ch => exact wait _ _
  | delay n => exact wait n 0x00
  | commit =>
    change (if s.cfg.commitAtomic then commitAllSlots s else beginCommit s).rsp.isSome = true ↔
      (if s.cfg.commitAtomic then commitAllSlots s else beginCommit s).hs = .idle
    split
    · simp [commitAllSlots_eq, idle]
    · simp [silent]
  | nop | rdtick | wrpend | setdim | reserved7 | reserved8F => exact ⟨fun _ => idle, fun _ => rfl⟩
  | reset | refresh | tick | waitcheck | commitstep => cases command

/-- The host port's action answers exactly if it leaves the port idle and there was a command, a wait or a commit to
complete (R61). -/
theorem hostAction_answers {v : StimVec} {s : State} (silent : s.rsp = none) :
    (hostAction s.hs v s).rsp.isSome = true ↔
      (hostAction s.hs v s).hs = .idle ∧ (s.hs = .idle ∧ v.getLsbD 16 = true ∨ s.hs = .wait ∨ s.hs = .commit) := by
  unfold hostAction
  cases hs : s.hs with
  | idle =>
    dsimp only
    split
    next presented => simp [presented, commandEffect_answers (isCommand_decodeCmd _) silent hs]
    next notPresented =>
      simp only [silent, notPresented, Option.isSome_none, Bool.false_eq_true, and_false, reduceCtorEq, or_false]
  | wait =>
    dsimp only
    split
    · obtain ⟨-, ended⟩ | ⟨-, unchanged⟩ := checkWait_cases s
      · simp [ended]
      · simp [unchanged, silent, hs]
    · simp [silent, hs]
  | commit =>
    obtain ⟨-, ended⟩ | ⟨-, advanced⟩ := commitOneSlot_cases s
    · simp [ended]
    · simp [advanced, silent, hs]
  | unused => simp [silent]

/-- Settles O16: RESET leaves no response; in any other instant only the host port's action can leave one. -/
theorem responsesMarkCompletion : Obligations.ResponsesMarkCompletion := by
  unfold Obligations.ResponsesMarkCompletion
  intro s t h
  obtain ⟨rst, rfl⟩ | ⟨rst, rfl⟩ := step_cases h
  · have silent : (resetRegisters (beginInstant s)).rsp = none := beginInstant_rsp s
    simp [rst, silent]
  · have answers := hostAction_answers (v := nextStim s) (s := agentPhases (nextStim s) (beginInstant s)) (by simp)
    simpa only [agentPhases_hs, beginInstant_hs, rst, true_and] using answers

/-! ### The order of the phases -/

/-- The refresh group a lit or unlit REFRESH leaves (R70). -/
theorem serveDigit_refreshGroup (s : State) :
    (serveDigit s).seg = (if lit s.cfg s.frameCounter s.dimDivisor then readComm s s.cursor else s.seg) ∧
    (serveDigit s).digEn = (if lit s.cfg s.frameCounter s.dimDivisor then 1#4 <<< s.cursor.toNat else 0b0000) ∧
    (serveDigit s).cursor = s.cursor + 1 ∧ (serveDigit s).frameCounter = s.frameCounter + 1 := by
  obtain ⟨isLit, served⟩ | ⟨notLit, served⟩ := serveDigit_cases s
  · rw [served, isLit]
    exact ⟨rfl, rfl, rfl, rfl⟩
  · rw [served, notLit]
    exact ⟨rfl, rfl, rfl, rfl⟩

/-- Settles O50: the host port's action and the TICK leave the refresh group alone, so it ends as the REFRESH left it, and
the taking of the line changes nothing that the REFRESH reads. -/
theorem refreshSeesTheOldValues : Obligations.RefreshSeesTheOldValues := by
  unfold Obligations.RefreshSeesTheOldValues
  intro s t v rest placed noReset strobe h
  obtain rfl := nextStim_placed placed
  have taken : beginInstant s = { s with rsp := none, trace := rest } := by rw [beginInstant, placed]
  have served : refreshPhase (nextStim s) (beginInstant s) = serveDigit { s with rsp := none, trace := rest } := by
    rw [refreshPhase, if_pos strobe, taken]
  refine ⟨serveDigit s, exec_refresh (divisor_of_step h noReset strobe), ?_⟩
  obtain ⟨rst, -⟩ | ⟨-, rfl⟩ := step_cases h
  · rw [noReset] at rst; cases rst
  · obtain ⟨seg, digEn, cursor, frameCounter⟩ := agentPhases_refreshGroup (nextStim s) (beginInstant s)
    obtain ⟨seg', digEn', cursor', frameCounter'⟩ := serveDigit_refreshGroup { s with rsp := none, trace := rest }
    obtain ⟨seg'', digEn'', cursor'', frameCounter''⟩ := serveDigit_refreshGroup s
    simp only [hostAction_seg, hostAction_digEn, hostAction_cursor, hostAction_frameCounter]
    rw [seg, digEn, cursor, frameCounter, served, seg', digEn', cursor', frameCounter', seg'', digEn'', cursor'',
      frameCounter'']
    exact ⟨rfl, rfl, rfl, rfl⟩

/-- Of the four lines, the one that is activated for digit `c` is line `c` (R70). -/
theorem digit_of_getLsbD_shift {c i : BitVec 2} (active : (1#4 <<< c.toNat).getLsbD i.toNat = true) : i = c := by
  revert c i
  decide

/-- Settles O53: only the REFRESH of an instant without reset writes bus and lines; lit, it drives the bus with the byte of
the one digit it activates, and otherwise no line is active. -/
theorem enabledDigitShowsItsSlot : Obligations.EnabledDigitShowsItsSlot := by
  unfold Obligations.EnabledDigitShowsItsSlot
  intro s t h noReset
  obtain ⟨rst, -⟩ | ⟨-, rfl⟩ := step_cases h
  · rw [noReset] at rst; cases rst
  obtain ⟨seg, digEn, -, -⟩ := agentPhases_refreshGroup (nextStim s) (beginInstant s)
  rw [hostAction_seg, hostAction_digEn, seg, digEn, refreshPhase]
  refine ⟨fun strobe i active => ?shown, fun noStrobe => ?kept⟩
  case kept =>
    rw [if_neg (Bool.eq_false_iff.mp noStrobe)]
    exact ⟨beginInstant_seg s, beginInstant_digEn s⟩
  case shown =>
    rw [if_pos strobe] at active ⊢
    obtain ⟨-, served⟩ | ⟨-, served⟩ := serveDigit_cases (beginInstant s)
    · rw [served] at active ⊢
      rw [digit_of_getLsbD_shift active]
      exact congrArg (SlotArray.get · _) (beginInstant_committed s)
    · rw [served] at active
      simp at active

/-- The opcode and the operands of a vector's command word, as slices of the vector (R55, R56). -/
theorem operands_command (v : StimVec) :
    opField (v.extractLsb' 0 16) = v.extractLsb' 12 4 ∧ chOperand (v.extractLsb' 0 16) = v.extractLsb' 8 1 ∧
    immOperand (v.extractLsb' 0 16) = v.extractLsb' 0 8 :=
  ⟨BitVec.extractLsb'_extractLsb'_of_le (by decide), BitVec.extractLsb'_extractLsb'_of_le (by decide),
    BitVec.extractLsb'_extractLsb'_of_le (by decide)⟩

/-- STARTWAIT with a delay other than 0 waits (R85). -/
theorem startWait_nonzero {n : Byte} (v : Byte) (s : State) (nonzero : n ≠ 0) :
    startWait n v s = { s with waitTarget := s.tickCounter + n, rspHold := v, hs := .wait } :=
  if_neg nonzero

/-- Settles O51: neither the REFRESH nor the command changes the tick group, so the command reads it as TICK alone leaves
it; which command it is follows from the opcode. -/
theorem commandsSeeTheTickOfTheirInstant : Obligations.CommandsSeeTheTickOfTheirInstant := by
  unfold Obligations.CommandsSeeTheTickOfTheirInstant
  intro s v rest placed idle divisor noReset strobe presented
  obtain rfl := nextStim_placed placed
  obtain ⟨opcode, ch, imm⟩ := operands_command (nextStim s)
  obtain ⟨tickCounter, history, pressCounter⟩ := agentPhases_tickGroup (nextStim s) (beginInstant s)
  have ticked : tickPhase (nextStim s) (beginInstant s) =
      { sampleAndAdvance ((nextStim s).extractLsb' 17 2) s with rsp := none, trace := rest } := by
    rw [tickPhase, if_pos strobe, beginInstant, placed]
    rfl
  rw [ticked] at tickCounter history pressCounter
  have performed : hostAction s.hs (nextStim s) (agentPhases (nextStim s) (beginInstant s)) =
      commandEffect (decodeCmd ((nextStim s).extractLsb' 0 16)) (agentPhases (nextStim s) (beginInstant s)) := by
    rw [idle, hostAction, if_pos presented]
  refine ⟨_, _, exec_tick _ s, step_quiet noReset fun _ => divisor, (hostAction_tickCounter ..).trans tickCounter,
    (hostAction_history ..).trans history, (hostAction_pressCounter ..).trans pressCounter,
    fun isRdtick => ?rdtick, fun isDelay nonzero => ?delay, fun isClassify guarded => ?classify⟩
  case rdtick =>
    rw [performed, decodeCmd, opcode, isRdtick]
    exact congrArg some tickCounter
  case delay =>
    rw [performed, decodeCmd, opcode, isDelay, imm]
    change (startWait _ _ _).hs = _ ∧ (startWait _ _ _).waitTarget = _
    rw [startWait_nonzero _ _ nonzero, tickCounter]
    exact ⟨rfl, rfl⟩
  case classify =>
    have read : readCnt (agentPhases (nextStim s) (beginInstant s)) ((nextStim s).extractLsb' 8 1) =
        readCnt (sampleAndAdvance ((nextStim s).extractLsb' 17 2) s) ((nextStim s).extractLsb' 8 1) :=
      congrArg (ChannelArray.get · _) pressCounter
    rw [performed, decodeCmd, opcode, isClassify, ch]
    change (classifyAndGuard _ _).hs = _ ∧ (classifyAndGuard _ _).rspHold = _ ∧ (classifyAndGuard _ _).waitTarget = _
    rw [classifyAndGuard, read, agentPhases_cfg, beginInstant_cfg, startWait_nonzero _ _ guarded, tickCounter]
    exact ⟨rfl, rfl, rfl⟩

end Sys2Proof.Proofs
end

section
/-! PROOF. What every step keeps and every run counts: the invariant of `10_state.md` section 7, the tally of commands and
responses (`20_memory.md` section 4), and the independence of the tick group (`41_debounce_tick.md`). -/

namespace Sys2Proof.Proofs
open Sys2Proof.Machine Sys2Proof.Safety

/-! ### The invariant -/

/-- What a legal configuration gives to the invariant. -/
theorem wf_ranges {c : Config} (legal : c.wf = true) :
    c.rebaseTo.toNat ≤ c.rebaseAt.toNat ∧ 1 ≤ c.dimMin.toNat ∧ c.dimMin.toNat ≤ c.dimReset.toNat := by
  simp only [Config.wf, Config.rebaseOk, Config.dimOk, Bool.and_eq_true, decide_eq_true_eq] at legal
  obtain ⟨⟨⟨-, rebase⟩, dimMin, dimReset⟩, -⟩ := legal
  exact ⟨rebase, dimMin, dimReset⟩

/-- Under a legal configuration RESET leaves a state that meets the invariant, whatever was before. -/
theorem inv_resetRegisters {s : State} (legal : s.cfg.wf = true) : Inv (resetRegisters s) := by
  have cleared (ch : BitVec 1) : readCnt (resetRegisters s) ch = 0 := channelArray_get_of_uniform 0 ch
  exact {
    config := legal
    counterBound := fun ch => by rw [cleared ch]; exact Nat.zero_le _
    openMeansZero := fun ch _ => cleared ch
    divisorBound := (wf_ranges legal).2.2
    oneDigitAtMost := .inl rfl
    cursorFollows := rfl
    hostStateLegal := nofun
    atomicNeverSteps := nofun }

/-- The taking of a line keeps the invariant: it writes no register. -/
theorem inv_beginInstant {s : State} (inv : Inv s) : Inv (beginInstant s) := by
  obtain ⟨config, counterBound, openMeansZero, divisorBound, oneDigitAtMost, cursorFollows, legal, atomic⟩ := inv
  constructor <;> simpa [readCnt, readHist]

/-- Activating the cursor's digit activates one digit (R70). -/
theorem oneDigit_shift (c : BitVec 2) :
    1#4 <<< c.toNat = 0b0001 ∨ 1#4 <<< c.toNat = 0b0010 ∨ 1#4 <<< c.toNat = 0b0100 ∨ 1#4 <<< c.toNat = 0b1000 := by
  revert c
  decide

/-- The cursor follows the frame counter also across the wrap, since 4 divides 65536 (R32). -/
theorem cursor_follows_next {cursor : BitVec 2} {frame : Frame} (follows : cursor.toNat = frame.toNat % 4) :
    (cursor + 1).toNat = (frame + 1).toNat % 4 := by
  simp only [BitVec.toNat_add, BitVec.ofNat_eq_ofNat, BitVec.toNat_ofNat, follows]
  omega

/-- REFRESH keeps the invariant. -/
theorem inv_serveDigit {s : State} (inv : Inv s) : Inv (serveDigit s) := by
  have cursorFollows := cursor_follows_next inv.cursorFollows
  obtain ⟨-, served⟩ | ⟨-, served⟩ := serveDigit_cases s
  · rw [served]
    exact { inv with oneDigitAtMost := .inr (oneDigit_shift s.cursor), cursorFollows := cursorFollows }
  · rw [served]
    exact { inv with oneDigitAtMost := .inl rfl, cursorFollows := cursorFollows }

/-- TICK keeps the invariant: a channel's new counter is 0 with an open window, and never above REBASE_AT (R78, R80). -/
theorem inv_sampleAndAdvance {s : State} (sw : BitVec 2) (inv : Inv s) : Inv (sampleAndAdvance sw s) := by
  have rebase := (wf_ranges inv.config).1
  refine { inv with counterBound := fun ch => ?counterBound, openMeansZero := fun ch opened => ?openMeansZero }
  case counterBound =>
    rw [sampleAndAdvance_readCnt]
    obtain ⟨-, cleared⟩ | ⟨-, -, rebased⟩ | ⟨-, within, counted⟩ :=
      nextCount_cases s.cfg (shiftIn (readHist s ch) (sampleOf sw ch)) (readCnt s ch)
    · rw [cleared]; exact Nat.zero_le _
    · rw [rebased]; exact rebase
    · rw [counted]; exact within
  case openMeansZero =>
    rw [sampleAndAdvance_readHist] at opened
    rw [sampleAndAdvance_readCnt]
    obtain ⟨-, cleared⟩ | ⟨closed, -⟩ | ⟨closed, -⟩ :=
      nextCount_cases s.cfg (shiftIn (readHist s ch) (sampleOf sw ch)) (readCnt s ch)
    · exact cleared
    · cases opened.symm.trans closed
    · cases opened.symm.trans closed

/-- The periodic agents keep the invariant. -/
theorem inv_agentPhases {s : State} (v : StimVec) (inv : Inv s) : Inv (agentPhases v s) := by
  have refreshed : Inv (refreshPhase v s) := by
    unfold refreshPhase
    split
    · exact inv_serveDigit inv
    · exact inv
  unfold agentPhases tickPhase
  split
  · exact inv_sampleAndAdvance _ refreshed
  · exact refreshed

/-- The clamp never goes below DIM_MIN (R71). -/
theorem dimMin_le_clampDivisor (c : Config) (d : Byte) : c.dimMin.toNat ≤ (clampDivisor c d).toNat := by
  unfold clampDivisor
  split
  next => exact le_rfl
  next notBelow => exact not_lt.mp notBelow

/-- Of the commands only SETDIM writes the divisor, and it clamps (R71). -/
theorem dimMin_le_commandEffect {s : State} (i : Instr) (bound : s.cfg.dimMin.toNat ≤ s.dimDivisor.toNat) :
    s.cfg.dimMin.toNat ≤ (commandEffect i s).dimDivisor.toNat := by
  cases i with
  | setdim d => exact dimMin_le_clampDivisor s.cfg d
  | classify ch => exact (startWait_dimDivisor _ _ s).symm ▸ bound
  | delay n => exact (startWait_dimDivisor n 0x00 s).symm ▸ bound
  | commit =>
    change _ ≤ (if s.cfg.commitAtomic then commitAllSlots s else beginCommit s).dimDivisor.toNat
    split <;> exact bound
  | nop | rdtick | wrpend | reserved7 | reserved8F | reset | refresh | tick | waitcheck | commitstep => exact bound

/-- Whatever the host port does, the divisor stays at DIM_MIN or above. -/
theorem dimMin_le_hostAction {s : State} (hs0 : HostState) (v : StimVec)
    (bound : s.cfg.dimMin.toNat ≤ s.dimDivisor.toNat) :
    s.cfg.dimMin.toNat ≤ (hostAction hs0 v s).dimDivisor.toNat := by
  unfold hostAction
  cases hs0 with
  | idle =>
    dsimp only
    split
    · exact dimMin_le_commandEffect _ bound
    · exact bound
  | wait =>
    dsimp only
    split
    · rw [checkWait_frame]; exact bound
    · exact bound
  | commit => dsimp only; rw [commitOneSlot_frame]; exact bound
  | unused => exact bound

/-- Where an instant without reset leaves the host port: idle without a command it stays so, `unused` stays so, and
otherwise there is a command to answer, and the port is in a host state of R26 afterwards (R108). -/
theorem step_hs_cases {s t : State} (h : step s = .next t) (noReset : (nextStim s).getLsbD 21 = false) :
    (s.hs = .idle ∧ (nextStim s).getLsbD 16 = false ∧ t.hs = .idle) ∨
    (s.hs = .unused ∧ t.hs = .unused) ∨
    ((s.hs = .idle ∧ (nextStim s).getLsbD 16 = true ∨ s.hs = .wait ∨ s.hs = .commit) ∧ t.hs ≠ .unused) := by
  rw [hostStateTransitionTable s t h, if_neg (Bool.eq_false_iff.mp noReset)]
  cases s.hs with
  | idle =>
    cases presented : (nextStim s).getLsbD 16 with
    | false => exact .inl ⟨rfl, rfl, rfl⟩
    | true =>
      refine .inr (.inr ⟨.inl ⟨rfl, rfl⟩, ?_⟩)
      dsimp only
      rw [if_pos rfl]
      split
      · split <;> exact nofun
      · split <;> exact nofun
      · split <;> exact nofun
      · exact nofun
  | wait =>
    refine .inr (.inr ⟨.inr (.inl rfl), ?_⟩)
    dsimp only
    split <;> exact nofun
  | commit =>
    refine .inr (.inr ⟨.inr (.inr rfl), ?_⟩)
    dsimp only
    split <;> exact nofun
  | unused => exact .inr (.inl ⟨rfl, rfl⟩)

/-- An atomic commit is complete in its own instant, so a port that was not in COMMIT does not get there (R101). -/
theorem step_hs_ne_commit {s t : State} (h : step s = .next t) (atomic : s.cfg.commitAtomic = true)
    (notCommitting : s.hs ≠ .commit) : t.hs ≠ .commit := by
  rw [hostStateTransitionTable s t h]
  split
  · exact nofun
  · cases hs : s.hs with
    | idle =>
      dsimp only
      split
      · split
        · split <;> exact nofun
        · split <;> exact nofun
        · exact nofun
        · exact nofun
      · exact nofun
    | wait =>
      dsimp only
      split <;> exact nofun
    | commit => exact absurd hs notCommitting
    | unused => exact nofun

/-- Settles O55: RESET establishes the invariant anew. In any other instant the agents keep the items about their groups,
the clamp keeps the divisor's, and the table of R108 the two about the host state. -/
theorem stepKeepsTheInvariant : Obligations.StepKeepsTheInvariant := by
  unfold Obligations.StepKeepsTheInvariant
  intro s t inv h
  have begun := inv_beginInstant inv
  obtain ⟨-, rfl⟩ | ⟨noReset, same⟩ := step_cases h
  · exact inv_resetRegisters begun.config
  · have agents := inv_agentPhases (nextStim s) begun
    have divisor := dimMin_le_hostAction s.hs (nextStim s) agents.divisorBound
    have frame := hostGroupOnly_hostAction s.hs (nextStim s) (agentPhases (nextStim s) (beginInstant s))
    rw [← same] at divisor frame
    have cfg : t.cfg = s.cfg := (stepTakesOneLine s t h).1
    have legal : t.hs ≠ .unused := by
      obtain ⟨-, -, idle⟩ | ⟨unused, -⟩ | ⟨-, legal⟩ := step_hs_cases h noReset
      · rw [idle]; exact nofun
      · exact absurd unused inv.hostStateLegal
      · exact legal
    have atomic (on : t.cfg.commitAtomic = true) : t.hs ≠ .commit :=
      step_hs_ne_commit h (cfg ▸ on) (inv.atomicNeverSteps (cfg ▸ on))
    rw [frame] at legal atomic divisor ⊢
    exact { agents with divisorBound := divisor, hostStateLegal := legal, atomicNeverSteps := atomic }

/-- Settles O54: the reset state is what RESET leaves of itself, under the hardware's legal configuration. -/
theorem resetStateMeetsTheInvariant : Obligations.ResetStateMeetsTheInvariant := by
  unfold Obligations.ResetStateMeetsTheInvariant
  exact inv_resetRegisters (s := State.reset) (by decide)

/-- A state that meets the invariant has a divisor other than 0. -/
theorem dimDivisor_ne_zero {s : State} (inv : Inv s) : s.dimDivisor ≠ 0 := by
  have bound := (wf_ranges inv.config).2.1.trans inv.divisorBound
  rintro zero
  rw [zero] at bound
  cases bound

/-- A step from a divisor other than 0 answers (R110). -/
theorem step_answers {s : State} (divisor : s.dimDivisor ≠ 0) : ∃ t, step s = .next t := by
  cases rst : (nextStim s).getLsbD 21 with
  | true => exact ⟨_, step_reset rst⟩
  | false => exact ⟨_, step_quiet rst fun _ => divisor⟩

/-- Settles O56: only a divisor of 0 stops a step, and the invariant, which every step keeps, excludes it. -/
theorem goodStatesNeverStop : Obligations.GoodStatesNeverStop := by
  unfold Obligations.GoodStatesNeverStop
  intro s inv k
  induction k generalizing s with
  | zero => exact ⟨s, rfl⟩
  | succ k ih =>
    obtain ⟨m, stepped⟩ := step_answers (dimDivisor_ne_zero inv)
    rw [runSteps_succ, stepped, andThen_next]
    exact ih m (stepKeepsTheInvariant s m inv stepped)

/-! ### The tally of commands and responses -/

/-- In a host state of R26, a command is in flight exactly if the port is not idle. -/
theorem inFlight_toNat_add {s : State} (legal : s.hs ≠ .unused) :
    (decide (s.hs = .idle)).toNat + (inFlight s).toNat = 1 := by
  unfold inFlight
  cases hs : s.hs with
  | idle | wait | commit => rfl
  | unused => exact absurd hs legal

/-- An instant without reset abandons nothing, and accepts what an idle port is presented with. -/
theorem instantTally_quiet {s t : State} (noReset : (nextStim s).getLsbD 21 = false) :
    (instantTally s t).abandoned = 0 ∧
    (instantTally s t).accepted = ((nextStim s).getLsbD 16 && s.hs == .idle).toNat := by
  have rst : (Stim.ofVector (nextStim s)).rst = false := noReset
  have valid : (Stim.ofVector (nextStim s)).cmdValid = (nextStim s).getLsbD 16 := rfl
  simp only [instantTally, acceptsCommand, rst, valid, Bool.false_and, Bool.toNat_false, Bool.not_false, Bool.true_and,
    and_self]

/-- One instant keeps the count: what was in flight or is accepted is answered, abandoned or in flight afterwards. -/
theorem instantTally_balanced {s t : State} (h : step s = .next t) :
    (instantTally s t).answered + (instantTally s t).abandoned + (inFlight t).toNat =
      (instantTally s t).accepted + (inFlight s).toNat := by
  cases rst : (nextStim s).getLsbD 21 with
  | true =>
    have reset : (Stim.ofVector (nextStim s)).rst = true := rst
    rw [step_reset rst] at h
    cases h
    have silent : (resetRegisters (beginInstant s)).rsp = none := beginInstant_rsp s
    have idle : inFlight (resetRegisters (beginInstant s)) = false := rfl
    simp [instantTally, acceptsCommand, reset, silent, idle]
  | false =>
    have answers := responsesMarkCompletion s t h
    obtain ⟨noneAbandoned, accepted⟩ := instantTally_quiet (t := t) rst
    have answered : (instantTally s t).answered = t.rsp.isSome.toNat := rfl
    rw [noneAbandoned, accepted, answered]
    obtain ⟨idle, notPresented, stays⟩ | ⟨unused, stays⟩ | ⟨toAnswer, legal⟩ := step_hs_cases h rst
    · have silent : t.rsp.isSome = false := by
        rw [Bool.eq_false_iff, ne_eq, answers, notPresented, idle]
        simp
      rw [silent, notPresented, inFlight, inFlight, idle, stays]
      rfl
    · have silent : t.rsp.isSome = false := by
        rw [Bool.eq_false_iff, ne_eq, answers, unused]
        simp
      simp [silent, inFlight, unused, stays]
    · have completes : t.rsp.isSome = decide (t.hs = .idle) := by
        rw [Bool.eq_iff_iff, answers, decide_eq_true_iff]
        exact ⟨fun ⟨_, idle, _⟩ => idle, fun idle => ⟨rst, idle, toAnswer⟩⟩
      have before : ((nextStim s).getLsbD 16 && s.hs == .idle).toNat + (inFlight s).toNat = 1 := by
        obtain ⟨idle, presented⟩ | waits | commits := toAnswer
        · simp only [presented, idle, inFlight]; rfl
        · simp [waits, inFlight]
        · simp [commits, inFlight]
      rw [before, completes, Nat.add_zero, inFlight_toNat_add legal]

/-- The tally of a longer run is that of its first instant and that of the rest. -/
theorem tallyRun_succ {k : Nat} {s t : State} {c : Tally} (run : tallyRun (k + 1) s = some (c, t)) :
    ∃ m rest, step s = .next m ∧ tallyRun k m = some (rest, t) ∧ c = (instantTally s m).add rest := by
  unfold tallyRun at run
  cases stepped : step s with
  | next m =>
    rw [stepped] at run
    obtain ⟨⟨rest, last⟩, ran, total⟩ := Option.map_eq_some_iff.mp run
    cases total
    exact ⟨m, rest, rfl, ran, rfl⟩
  | fault r => rw [stepped] at run; cases run
  | refused r => rw [stepped] at run; cases run

/-- Settles O57: the count is kept by every instant, so the tally of a run keeps it by induction on its length. -/
theorem commandsAreAnsweredExactlyOnce : Obligations.CommandsAreAnsweredExactlyOnce := by
  unfold Obligations.CommandsAreAnsweredExactlyOnce
  intro k
  induction k with
  | zero =>
    intro s t c run
    cases run
    rfl
  | succ k ih =>
    intro s t c run
    obtain ⟨m, rest, stepped, ran, rfl⟩ := tallyRun_succ run
    have first := instantTally_balanced stepped
    have later := ih m t rest ran
    simp only [Tally.add]
    omega

/-! ### The tick group -/

/-- Two states agree in the tick group and in the configuration it is advanced under. -/
def SameTickGroup (s u : State) : Prop :=
  s.cfg = u.cfg ∧ s.tickCounter = u.tickCounter ∧ s.history = u.history ∧ s.pressCounter = u.pressCounter

/-- What an instant's vector says to the tick group: reset, tick strobe, and the samples at a tick. -/
def tickInputs (v : StimVec) : Bool × Bool × BitVec 2 :=
  (v.getLsbD 21, v.getLsbD 19, if v.getLsbD 19 then v.extractLsb' 17 2 else 0)

/-- TICK advances equal tick groups to equal ones. -/
theorem sameTickGroup_sampleAndAdvance {s u : State} (sw : BitVec 2) (same : SameTickGroup s u) :
    SameTickGroup (sampleAndAdvance sw s) (sampleAndAdvance sw u) := by
  obtain ⟨cfg, tickCounter, history, pressCounter⟩ := same
  refine ⟨cfg, congrArg (· + 1) tickCounter, ChannelArray.ext_get fun ch => ?_, ChannelArray.ext_get fun ch => ?_⟩
  · change readHist _ ch = readHist _ ch
    rw [sampleAndAdvance_readHist, sampleAndAdvance_readHist, readHist, readHist, history]
  · change readCnt _ ch = readCnt _ ch
    rw [sampleAndAdvance_readCnt, sampleAndAdvance_readCnt, readHist, readHist, readCnt, readCnt, history, pressCounter,
      cfg]

/-- An instant without reset leaves the tick group as its tick phase alone leaves it, since neither REFRESH nor the host
port writes it (R82). -/
theorem sameTickGroup_quiet {s t : State} (h : step s = .next t) (noReset : (nextStim s).getLsbD 21 = false) :
    SameTickGroup t (tickPhase (nextStim s) (beginInstant s)) := by
  obtain ⟨rst, -⟩ | ⟨-, rfl⟩ := step_cases h
  · rw [noReset] at rst; cases rst
  · obtain ⟨tickCounter, history, pressCounter⟩ := agentPhases_tickGroup (nextStim s) (beginInstant s)
    refine ⟨?_, (hostAction_tickCounter ..).trans tickCounter, (hostAction_history ..).trans history,
      (hostAction_pressCounter ..).trans pressCounter⟩
    rw [hostAction_cfg, agentPhases_cfg, tickPhase_frame]

/-- The tick phases of two vectors that say the same to the tick group. -/
theorem sameTickGroup_tickPhase {s u : State} {v w : StimVec} (same : SameTickGroup s u)
    (inputs : tickInputs v = tickInputs w) : SameTickGroup (tickPhase v s) (tickPhase w u) := by
  simp only [tickInputs, Prod.mk.injEq] at inputs
  obtain ⟨-, strobe, samples⟩ := inputs
  unfold tickPhase
  cases ticks : w.getLsbD 19 with
  | false =>
    rw [strobe, ticks]
    exact same
  | true =>
    rw [strobe, ticks, if_pos rfl, if_pos rfl] at samples
    rw [strobe, ticks, if_pos rfl, if_pos rfl, samples]
    exact sameTickGroup_sampleAndAdvance _ same

/-- One instant keeps two tick groups equal, if the two vectors say the same to them. -/
theorem sameTickGroup_step {s u t x : State} (same : SameTickGroup s u)
    (inputs : tickInputs (nextStim s) = tickInputs (nextStim u)) (hs : step s = .next t) (hu : step u = .next x) :
    SameTickGroup t x := by
  have begun : SameTickGroup (beginInstant s) (beginInstant u) := by simpa [SameTickGroup] using same
  have resets : (nextStim s).getLsbD 21 = (nextStim u).getLsbD 21 := congrArg Prod.fst inputs
  cases rst : (nextStim s).getLsbD 21 with
  | true =>
    rw [step_reset rst] at hs
    rw [step_reset (resets ▸ rst)] at hu
    cases hs
    cases hu
    have reset : ChannelArray.mk (beginInstant s).cfg.histReset (beginInstant s).cfg.histReset =
        ⟨(beginInstant u).cfg.histReset, (beginInstant u).cfg.histReset⟩ := by rw [begun.1]
    exact ⟨begun.1, rfl, reset, rfl⟩
  | false =>
    obtain ⟨cfg, tickCounter, history, pressCounter⟩ := sameTickGroup_tickPhase begun inputs
    obtain ⟨cfgS, tickCounterS, historyS, pressCounterS⟩ := sameTickGroup_quiet hs rst
    obtain ⟨cfgU, tickCounterU, historyU, pressCounterU⟩ := sameTickGroup_quiet hu (resets ▸ rst)
    exact ⟨cfgS.trans (cfg.trans cfgU.symm), tickCounterS.trans (tickCounter.trans tickCounterU.symm),
      historyS.trans (history.trans historyU.symm), pressCounterS.trans (pressCounter.trans pressCounterU.symm)⟩

/-- Runs of `k` lines that say the same to the tick group keep two tick groups equal. -/
theorem sameTickGroup_runSteps {k : Nat} {s u t x : State} (same : SameTickGroup s u) (placedS : k ≤ s.trace.length)
    (placedU : k ≤ u.trace.length) (inputs : (s.trace.take k).map tickInputs = (u.trace.take k).map tickInputs)
    (hs : runSteps k s = .next t) (hu : runSteps k u = .next x) : SameTickGroup t x := by
  induction k generalizing s u with
  | zero =>
    cases hs
    cases hu
    exact same
  | succ k ih =>
    obtain ⟨v, restS, traceS⟩ := List.exists_cons_of_length_pos (Nat.zero_lt_of_lt placedS)
    obtain ⟨w, restU, traceU⟩ := List.exists_cons_of_length_pos (Nat.zero_lt_of_lt placedU)
    rw [traceS, traceU, List.take_succ_cons, List.take_succ_cons, List.map_cons, List.map_cons, List.cons.injEq] at inputs
    obtain ⟨first, later⟩ := inputs
    obtain ⟨s', stepS, runS⟩ := andThen_eq_next hs
    obtain ⟨u', stepU, runU⟩ := andThen_eq_next hu
    rw [← nextStim_placed traceS, ← nextStim_placed traceU] at first
    have tailS : s'.trace = restS := by rw [(stepTakesOneLine s s' stepS).2.1, traceS, List.tail_cons]
    have tailU : u'.trace = restU := by rw [(stepTakesOneLine u u' stepU).2.1, traceU, List.tail_cons]
    rw [traceS] at placedS
    rw [traceU] at placedU
    exact ih (sameTickGroup_step same first stepS stepU) (tailS ▸ Nat.le_of_succ_le_succ placedS)
      (tailU ▸ Nat.le_of_succ_le_succ placedU) (tailS ▸ tailU ▸ later) runS runU

/-- Settles O52: agreement of the tick groups is a relation between the two runs that every pair of instants with the same
reset, tick strobe and samples keeps, whatever else their vectors and states hold. -/
theorem timeBaseIsIndependentOfTheHost : Obligations.TimeBaseIsIndependentOfTheHost := by
  unfold Obligations.TimeBaseIsIndependentOfTheHost
  intro k s u t x cfg tickCounter history pressCounter placedS placedU inputs hs hu
  exact (sameTickGroup_runSteps ⟨cfg, tickCounter, history, pressCounter⟩ placedS placedU inputs hs hu).2

end Sys2Proof.Proofs
end

section
/-! PROOF. Runs of TICK: the laws of `41_debounce_tick.md` and of the held button (`43_classifier.md`). -/

namespace Sys2Proof.Proofs
open Sys2Proof.Machine

/-! ### One channel through a run of ticks -/

/-- The state after a run of ticks. -/
def afterTicks (run : List (BitVec 2)) (s : State) : State := run.foldl (fun t sw => sampleAndAdvance sw t) s

@[simp] theorem afterTicks_nil (s : State) : afterTicks [] s = s := rfl

theorem afterTicks_cons (sw : BitVec 2) (run : List (BitVec 2)) (s : State) :
    afterTicks (sw :: run) s = afterTicks run (sampleAndAdvance sw s) := rfl

/-- A run of ticks always answers (R82). -/
theorem runOps_ticks (run : List (BitVec 2)) (s : State) : runOps (run.map Instr.tick) s = .next (afterTicks run s) := by
  induction run generalizing s with
  | nil => rfl
  | cons sw run ih => rw [List.map_cons, runOps_cons, exec_tick, andThen_next, ih, afterTicks_cons]

@[simp] theorem afterTicks_cfg (run : List (BitVec 2)) (s : State) : (afterTicks run s).cfg = s.cfg := by
  induction run generalizing s with
  | nil => rfl
  | cons sw run ih => rw [afterTicks_cons, ih, sampleAndAdvance_eq]

/-- Settles O30: TICK's history and counter of a channel are given by that channel's history, counter and sample. -/
theorem channelsAreIndependent : Obligations.ChannelsAreIndependent := by
  unfold Obligations.ChannelsAreIndependent
  intro s u ch v w cfg history counter sample
  refine ⟨_, _, exec_tick v s, exec_tick w u, ?_, ?_⟩
  · rw [sampleAndAdvance_readHist, sampleAndAdvance_readHist, shiftIn_sampleOf, shiftIn_sampleOf, history, sample]
  · rw [sampleAndAdvance_readCnt, sampleAndAdvance_readCnt, shiftIn_sampleOf, shiftIn_sampleOf, history, sample,
      counter, cfg]

/-- The history after a TICK over the naturals (R78). -/
theorem toNat_readHist_tick (sw : BitVec 2) (s : State) (ch : BitVec 1) :
    (readHist (sampleAndAdvance sw s) ch).toNat =
      ((readHist s ch).toNat * 2 + (sw.getLsbD ch.toNat).toNat) % 2 ^ 8 := by
  rw [sampleAndAdvance_readHist, toNat_shiftIn_sampleOf]

/-- The counter after a TICK over the naturals, with this hardware's parameters (R78). -/
theorem toNat_readCnt_tick {s : State} (hardware : s.cfg = Config.hardware) (sw : BitVec 2) (ch : BitVec 1) :
    (readCnt (sampleAndAdvance sw s) ch).toNat =
      if (readHist (sampleAndAdvance sw s) ch).toNat % 16 = 0 then
        (if (readCnt s ch).toNat + 1 > 250 then 100 else (readCnt s ch).toNat + 1)
      else 0 := by
  rw [sampleAndAdvance_readHist, sampleAndAdvance_readCnt, hardware, toNat_nextCount_hardware]

/-! ### History bits beyond the window -/

/-- The low four bits of a history are its value modulo 16. -/
theorem extractLsb'_four_eq_iff (x y : Byte) : x.extractLsb' 0 4 = y.extractLsb' 0 4 ↔ x.toNat % 16 = y.toNat % 16 := by
  rw [← BitVec.toNat_inj, BitVec.extractLsb'_toNat, BitVec.extractLsb'_toNat]
  simp

/-- Agreement in a counter and in the window's four history bits is kept by every run of equal ticks. -/
theorem readCnt_afterTicks_congr {run : List (BitVec 2)} {s u : State} {ch : BitVec 1} (hardwareS : s.cfg = Config.hardware)
    (hardwareU : u.cfg = Config.hardware) (window : (readHist s ch).toNat % 16 = (readHist u ch).toNat % 16)
    (counter : readCnt s ch = readCnt u ch) : readCnt (afterTicks run s) ch = readCnt (afterTicks run u) ch := by
  induction run generalizing s u with
  | nil => exact counter
  | cons sw run ih =>
    have window' : (readHist (sampleAndAdvance sw s) ch).toNat % 16 = (readHist (sampleAndAdvance sw u) ch).toNat % 16 := by
      rw [toNat_readHist_tick, toNat_readHist_tick]
      omega
    have counter' : readCnt (sampleAndAdvance sw s) ch = readCnt (sampleAndAdvance sw u) ch := by
      apply BitVec.eq_of_toNat_eq
      rw [toNat_readCnt_tick hardwareS, toNat_readCnt_tick hardwareU, window', counter]
    exact ih hardwareS hardwareU window' counter'

/-- Settles O31: what TICK does to the low four bits and to the counter depends on these alone. -/
theorem historyHighBitsAreUnobservable : Obligations.HistoryHighBitsAreUnobservable := by
  unfold Obligations.HistoryHighBitsAreUnobservable
  intro run s u ch hardwareS hardwareU window counter
  exact ⟨_, _, runOps_ticks run s, runOps_ticks run u,
    readCnt_afterTicks_congr hardwareS hardwareU ((extractLsb'_four_eq_iff _ _).mp window) counter⟩

/-! ### Release -/

/-- A bit of the history moves up by one at each TICK, and the sample enters at bit 0 (R78). -/
theorem getLsbD_readHist_tick (sw : BitVec 2) (s : State) (ch : BitVec 1) (q : Nat) :
    (readHist (sampleAndAdvance sw s) ch).getLsbD (q + 1) = (decide (q < 7) && (readHist s ch).getLsbD q) ∧
    (readHist (sampleAndAdvance sw s) ch).getLsbD 0 = sw.getLsbD ch.toNat := by
  rw [sampleAndAdvance_readHist, shiftIn_sampleOf, BitVec.getLsbD_shiftConcat, BitVec.getLsbD_shiftConcat]
  simp [Nat.succ_lt_succ_iff]

/-- A history with an open sample in the window is not closed. -/
theorem window_ne_zero_of_open {history : Byte} {q : Nat} (inWindow : q < 4) (opened : history.getLsbD q = true) :
    history.toNat % 16 ≠ 0 := by
  intro closed
  have bit := Nat.testBit_mod_two_pow history.toNat 4 q
  rw [show history.toNat % 2 ^ 4 = 0 from closed, Nat.zero_testBit, decide_eq_true inWindow, Bool.true_and,
    BitVec.testBit_toNat, opened] at bit
  cases bit

/-- While an open sample stays in the window, a counter at 0 stays there (R80, R81). -/
theorem readCnt_eq_zero_of_open {run : List (BitVec 2)} {s : State} {ch : BitVec 1} {q : Nat}
    (hardware : s.cfg = Config.hardware) (counter : readCnt s ch = 0) (opened : (readHist s ch).getLsbD q = true)
    (inWindow : q + run.length < 4) : readCnt (afterTicks run s) ch = 0 := by
  induction run generalizing s q with
  | nil => exact counter
  | cons sw run ih =>
    rw [List.length_cons] at inWindow
    have opened' : (readHist (sampleAndAdvance sw s) ch).getLsbD (q + 1) = true := by
      rw [(getLsbD_readHist_tick sw s ch q).1, opened, decide_eq_true (by omega)]
      rfl
    have cleared : readCnt (sampleAndAdvance sw s) ch = 0 := by
      apply BitVec.eq_of_toNat_eq
      rw [toNat_readCnt_tick hardware, if_neg (window_ne_zero_of_open (by omega) opened')]
      rfl
    exact ih hardware cleared opened' (by omega)

/-- Settles O28: the open sample enters at bit 0, so the counter is cleared, and for three more ticks the sample stays in
the window of four. -/
theorem releaseClearsTheCounter : Obligations.ReleaseClearsTheCounter := by
  unfold Obligations.ReleaseClearsTheCounter
  intro s ch sw later hardware isOpen short
  have opened : (readHist (sampleAndAdvance sw s) ch).getLsbD 0 = true :=
    (getLsbD_readHist_tick sw s ch 0).2.trans isOpen
  have cleared : readCnt (sampleAndAdvance sw s) ch = 0 := by
    apply BitVec.eq_of_toNat_eq
    rw [toNat_readCnt_tick hardware, if_neg (window_ne_zero_of_open (by decide) opened)]
    rfl
  exact ⟨_, runOps_ticks (sw :: later) s,
    readCnt_eq_zero_of_open (s := sampleAndAdvance sw s) hardware cleared opened (by omega)⟩

/-! ### The held button -/

/-- The counter `k` closed ticks after it held `c`: it counts up to 250 and then runs through 100 to 250 again (R78). -/
def heldCount (c k : Nat) : Nat := if c + k ≤ 250 then c + k else 100 + (c + k - 251) % 151

/-- One closed tick advances the held counter by one place of its law. -/
theorem heldCount_succ {c : Nat} (bound : c ≤ 250) (k : Nat) :
    heldCount c (k + 1) = heldCount (if c + 1 > 250 then 100 else c + 1) k := by
  unfold heldCount
  split_ifs <;> omega

/-- With the three newest samples closed, every closed tick counts (R80). -/
theorem toNat_readCnt_held {run : List (BitVec 2)} {s : State} {ch : BitVec 1} (hardware : s.cfg = Config.hardware)
    (bound : (readCnt s ch).toNat ≤ 250)
    (window : (readHist s ch).toNat % 8 = 0) (closed : ∀ sw ∈ run, sw.getLsbD ch.toNat = false) :
    (readCnt (afterTicks run s) ch).toNat = heldCount (readCnt s ch).toNat run.length := by
  induction run generalizing s with
  | nil =>
    rw [heldCount, if_pos (by simpa using bound)]
    rfl
  | cons sw run ih =>
    have sample : sw.getLsbD ch.toNat = false := closed sw List.mem_cons_self
    have window' : (readHist (sampleAndAdvance sw s) ch).toNat % 16 = 0 := by
      rw [toNat_readHist_tick, sample, Bool.toNat_false]
      omega
    have counted := toNat_readCnt_tick hardware sw ch
    rw [if_pos window'] at counted
    have bound' : (readCnt (sampleAndAdvance sw s) ch).toNat ≤ 250 := by rw [counted]; split <;> omega
    have later := ih (s := sampleAndAdvance sw s) hardware bound' (by omega)
      fun sw' inRun => closed sw' (List.mem_cons_of_mem _ inRun)
    rw [afterTicks_cons, later, counted, List.length_cons, heldCount_succ bound]

/-- Settles O29: from 100 the held counter is `100 + k mod 151`, which is above 150 from the 51st place on. -/
theorem heldButtonAlternates : Obligations.HeldButtonAlternates := by
  unfold Obligations.HeldButtonAlternates
  intro s ch run hardware counter window closed
  have held := toNat_readCnt_held hardware (by rw [counter]; decide) window closed
  have law : (readCnt (afterTicks run s) ch).toNat = 100 + run.length % 151 := by
    rw [held, counter, heldCount, show (100 : Byte).toNat = 100 from rfl]
    split <;> omega
  obtain ⟨long, short, -, -⟩ := classificationThresholds (readCnt (afterTicks run s) ch)
  refine ⟨_, runOps_ticks run s, ?_, ?_⟩
  · intro zero
    rw [zero, show (0 : Byte).toNat = 0 from rfl] at law
    omega
  · rw [afterTicks_cfg, hardware]
    split
    · exact short (by omega)
    · exact long (by omega)

/-! ### The closed-run law -/

theorem afterTicks_append (first later : List (BitVec 2)) (s : State) :
    afterTicks (first ++ later) s = afterTicks later (afterTicks first s) :=
  List.foldl_append

/-- A history whose low `p` bits are all closed is a multiple of `2 ^ p`. -/
theorem mod_two_pow_of_closed {history : Byte} {p : Nat} (closed : ∀ q, q < p → history.getLsbD q = false) :
    history.toNat % 2 ^ p = 0 := by
  apply Nat.eq_of_testBit_eq
  intro q
  rw [Nat.testBit_mod_two_pow, Nat.zero_testBit, BitVec.testBit_toNat]
  by_cases low : q < p
  · rw [closed q low, Bool.and_false]
  · rw [decide_eq_false low, Bool.false_and]

/-- Each closed tick adds one closed sample at the newest places of the history (R78). -/
theorem readHist_afterTicks_closed {run : List (BitVec 2)} {s : State} {ch : BitVec 1} {p : Nat}
    (newer : (readHist s ch).toNat % 2 ^ p = 0) (closed : ∀ sw ∈ run, sw.getLsbD ch.toNat = false)
    (stored : p + run.length ≤ 8) : (readHist (afterTicks run s) ch).toNat % 2 ^ (p + run.length) = 0 := by
  induction run generalizing s p with
  | nil => exact newer
  | cons sw run ih =>
    rw [List.length_cons] at stored
    have newer' : (readHist (sampleAndAdvance sw s) ch).toNat % 2 ^ (p + 1) = 0 := by
      rw [toNat_readHist_tick, closed sw List.mem_cons_self, Bool.toNat_false, Nat.add_zero,
        Nat.mod_mod_of_dvd _ (Nat.pow_dvd_pow 2 (by omega)), Nat.pow_succ, Nat.mul_mod_mul_right, newer]
    have later := ih newer' (fun sw' inRun => closed sw' (List.mem_cons_of_mem _ inRun)) (by omega)
    rwa [Nat.add_right_comm, Nat.add_assoc] at later

/-- Settles O27: up to 3 - p closed ticks keep the open sample in the window, so the counter stays 0. After that many the
three newest samples are closed, and every further tick counts by the law of the held button. -/
theorem closedRunLaw : Obligations.ClosedRunLaw := by
  unfold Obligations.ClosedRunLaw
  intro s ch p run hardware counter inWindow opened newer closed
  refine ⟨_, runOps_ticks run s, ?_⟩
  by_cases short : run.length < 4 - p
  · rw [if_pos short, readCnt_eq_zero_of_open hardware counter opened (by omega)]
    rfl
  · have length : (run.take (3 - p)).length = 3 - p := List.length_take_of_le (by omega)
    have counter' := readCnt_eq_zero_of_open (run := run.take (3 - p)) hardware counter opened (by omega)
    have window := readHist_afterTicks_closed (run := run.take (3 - p)) (mod_two_pow_of_closed newer)
      (fun sw inRun => closed sw (List.mem_of_mem_take inRun)) (by omega)
    rw [length, show p + (3 - p) = 3 by omega] at window
    have held := toNat_readCnt_held (run := run.drop (3 - p)) (s := afterTicks (run.take (3 - p)) s)
      ((afterTicks_cfg _ _).trans hardware) (by rw [counter']; decide) window
      (fun sw inRun => closed sw (List.mem_of_mem_drop inRun))
    rw [← afterTicks_append, List.take_append_drop, counter', List.length_drop, heldCount,
      show (0 : Byte).toNat = 0 from rfl] at held
    rw [held, if_neg short]
    split_ifs <;> omega

end Sys2Proof.Proofs
end

section
/-! PROOF. Runs of REFRESH: the duty cycle and the order of service of `40_display_refresh.md`; and the properties of the
rotation, the reserved opcodes and the configuration after reset. -/

namespace Sys2Proof.Proofs
open Sys2Proof.Machine Sys2Proof.Safety

/-! ### The duty cycle -/

/-- With this hardware's LIT_WIN, a REFRESH activates a digit exactly at a dimming phase below 4 (R70). -/
theorem serveDigit_digEn_eq_zero_iff {s : State} (hardware : s.cfg = Config.hardware) :
    (serveDigit s).digEn = 0 ↔ ¬ s.frameCounter.toNat % s.dimDivisor.toNat < 4 := by
  rw [(serveDigit_refreshGroup s).2.1, hardware, ← lit_hardware_iff]
  split
  next isLit =>
    have active : 1#4 <<< s.cursor.toNat ≠ 0 := by
      generalize s.cursor = c
      revert c
      decide
    exact iff_of_false active (not_not_intro isLit)
  next notLit => exact iff_of_true rfl notLit

/-- One REFRESH counts if it is lit, and the others follow from the state it leaves. -/
theorem litRefreshes_succ {n : Nat} {s : State} (hardware : s.cfg = Config.hardware) (divisor : s.dimDivisor ≠ 0) :
    litRefreshes (n + 1) s = (litRefreshes n (serveDigit s)).map fun k =>
      k + (if s.frameCounter.toNat % s.dimDivisor.toNat < 4 then 1 else 0) := by
  rw [litRefreshes, exec_refresh divisor]
  simp only [serveDigit_digEn_eq_zero_iff hardware, ite_not]

/-- The lit ones of the next `n` refreshes are those of the next `n` frames whose dimming phase is below 4, as long as
these do not cross the wrap (R72). -/
theorem litRefreshes_eq_count {n f : Nat} {s : State} (hardware : s.cfg = Config.hardware) (divisor : s.dimDivisor ≠ 0)
    (frame : s.frameCounter = BitVec.ofNat 16 f) (noWrap : f + n ≤ 2 ^ 16) :
    litRefreshes n s = some (Nat.count (fun k => (f + k) % s.dimDivisor.toNat < 4) n) := by
  induction n generalizing f s with
  | zero => rfl
  | succ n ih =>
    have current : s.frameCounter.toNat = f := by
      rw [frame, BitVec.toNat_ofNat]
      exact Nat.mod_eq_of_lt (by omega)
    have keeps : (serveDigit s).cfg = s.cfg ∧ (serveDigit s).dimDivisor = s.dimDivisor := by
      rw [serveDigit_frame]
      exact ⟨rfl, rfl⟩
    have frame' : (serveDigit s).frameCounter = BitVec.ofNat 16 (f + 1) := by
      rw [(serveDigit_refreshGroup s).2.2.2, frame, BitVec.ofNat_add]
      rfl
    rw [litRefreshes_succ hardware divisor, ih (keeps.1.trans hardware) (keeps.2 ▸ divisor) frame' (by omega), keeps.2,
      current, Nat.count_succ', Option.map_some]
    simp only [Nat.add_zero, Nat.add_assoc, Nat.add_comm 1]

/-- In one period from any start, the phases below 4 are four (R72). -/
theorem count_phase {D : Nat} (atLeast : 4 ≤ D) (f : Nat) : Nat.count (fun k => (f + k) % D < 4) D = 4 := by
  have fromZero : Nat.count (fun k => k % D < 4) D = 4 := by
    obtain ⟨r, rfl⟩ := Nat.exists_eq_add_of_le atLeast
    have litOnes : Nat.count (fun k => k % (4 + r) < 4) 4 = 4 :=
      Nat.count_of_forall fun {k} below => by rw [Nat.mod_eq_of_lt (by omega)]; exact below
    have darkOnes : Nat.count (fun k => (4 + k) % (4 + r) < 4) r = 0 :=
      Nat.count_of_forall_not fun {k} below => by rw [Nat.mod_eq_of_lt (by omega)]; omega
    rw [Nat.count_add, litOnes, darkOnes]
  have split := Nat.count_add (fun k => k % D < 4) f D
  have split' := Nat.count_add (fun k => k % D < 4) D f
  simp only [Nat.add_mod_left] at split'
  rw [Nat.add_comm D f] at split'
  omega

/-- Settles O23: each of the next D refreshes sees the next frame, none of them crosses the wrap, and of D consecutive
frames four have a phase below 4. -/
theorem dutyCycleIsFourInD : Obligations.DutyCycleIsFourInD := by
  unfold Obligations.DutyCycleIsFourInD
  intro s hardware atLeast noWrap
  have divisor : s.dimDivisor ≠ 0 := by
    rintro zero
    rw [zero] at atLeast
    cases atLeast
  have frame : s.frameCounter = BitVec.ofNat 16 s.frameCounter.toNat := by simp
  rw [litRefreshes_eq_count hardware divisor frame noWrap, count_phase atLeast]

/-! ### The order of service -/

/-- A run of refreshes advances cursor and frame counter by its length, lit or not (R73). -/
theorem runOps_refreshes (n : Nat) {s : State} (divisor : s.dimDivisor ≠ 0) :
    ∃ t, runOps (List.replicate n .refresh) s = .next t ∧
      t = { s with
            cursor := s.cursor + BitVec.ofNat 2 n, frameCounter := s.frameCounter + BitVec.ofNat 16 n
            seg := t.seg, digEn := t.digEn } := by
  induction n with
  | zero => exact ⟨s, rfl, by simp⟩
  | succ n ih =>
    obtain ⟨m, ran, advanced⟩ := ih
    have divisor' : m.dimDivisor ≠ 0 := by rw [advanced]; exact divisor
    obtain ⟨-, -, cursor, frameCounter⟩ := serveDigit_refreshGroup m
    refine ⟨serveDigit m, ?_, ?_⟩
    · rw [List.replicate_succ', runOps_append, ran, andThen_next, runOps_singleton, exec_refresh divisor']
    · rw [serveDigit_frame, cursor, frameCounter, advanced, BitVec.ofNat_add, BitVec.ofNat_add, BitVec.add_assoc,
        BitVec.add_assoc]
      rfl

/-- Settles O24: n refreshes advance cursor and frame counter by n each, and touch nothing else that the last one reads; it
serves the digit that the advanced cursor names. -/
theorem refreshesServeDigitsInTurn : Obligations.RefreshesServeDigitsInTurn := by
  unfold Obligations.RefreshesServeDigitsInTurn
  intro n s hardware divisor
  obtain ⟨m, ran, advanced⟩ := runOps_refreshes n divisor
  have keeps : m.cfg = Config.hardware ∧ m.dimDivisor = s.dimDivisor ∧ m.committed = s.committed ∧
      m.cursor = s.cursor + BitVec.ofNat 2 n ∧ m.frameCounter = s.frameCounter + BitVec.ofNat 16 n := by
    rw [advanced]
    exact ⟨hardware, rfl, rfl, rfl, rfl⟩
  obtain ⟨cfg, sameDivisor, sameComm, cursor, frame⟩ := keeps
  have cursorNat : m.cursor.toNat = (s.cursor.toNat + n) % 4 := by rw [cursor]; simp
  have frameNat : m.frameCounter.toNat = (s.frameCounter.toNat + n) % 2 ^ 16 := by rw [frame]; simp
  have phase := lit_hardware_iff m.frameCounter m.dimDivisor
  obtain ⟨seg, digEn, cursor', frame'⟩ := serveDigit_refreshGroup m
  rw [← cfg] at phase
  rw [frameNat, sameDivisor] at phase
  refine ⟨serveDigit m, ?ran, ?cursor, ?frame, ?digEn, fun isLit => ?seg⟩
  case ran =>
    rw [List.replicate_succ', runOps_append, ran, andThen_next, runOps_singleton, exec_refresh (sameDivisor ▸ divisor)]
  case cursor =>
    rw [cursor', BitVec.toNat_add, cursorNat]
    simp
  case frame =>
    rw [frame', BitVec.toNat_add, frameNat]
    simp
  case digEn =>
    rw [digEn, cursorNat, sameDivisor]
    simp only [phase]
  case seg =>
    have served : m.cursor = BitVec.ofNat 2 (s.cursor.toNat + n) := by rw [cursor, BitVec.ofNat_add]; simp
    rw [seg, sameDivisor, if_pos (phase.mpr isLit), served, readComm, sameComm]
    rfl

/-! ### The rotation -/

/-- The slices of a rotated byte (R96). -/
theorem slices_rot (v : Byte) :
    (rot Config.hardware v).extractLsb' 6 2 = v.extractLsb' 6 2 ∧
    (rot Config.hardware v).extractLsb' 3 3 = v.extractLsb' 0 3 ∧
    (rot Config.hardware v).extractLsb' 0 3 = v.extractLsb' 3 3 := by
  rw [rot_amount_three v rfl]
  refine ⟨?upper, ?middle, ?lower⟩
  case upper =>
    rw [BitVec.extractLsb'_append_eq_of_le (by decide), BitVec.extractLsb'_append_eq_of_le (by decide)]
    exact BitVec.extractLsb'_eq_self
  case middle =>
    rw [BitVec.extractLsb'_append_eq_of_le (by decide)]
    exact BitVec.extractLsb'_append_eq_right
  case lower => exact BitVec.extractLsb'_append_eq_right

/-- A byte is its three slices. -/
theorem byte_slices (v : Byte) : v.extractLsb' 6 2 ++ v.extractLsb' 3 3 ++ v.extractLsb' 0 3 = v := by
  rw [BitVec.extractLsb'_append_extractLsb'_eq_extractLsb' (start₂ := 6) rfl,
    BitVec.extractLsb'_append_extractLsb'_eq_extractLsb' (start₂ := 3) rfl]
  exact BitVec.extractLsb'_eq_self

/-- Bytes with the same three slices are equal. -/
theorem byte_ext_slices {v w : Byte} (upper : v.extractLsb' 6 2 = w.extractLsb' 6 2)
    (middle : v.extractLsb' 3 3 = w.extractLsb' 3 3) (lower : v.extractLsb' 0 3 = w.extractLsb' 0 3) : v = w := by
  rw [← byte_slices v, ← byte_slices w, upper, middle, lower]

/-- Where the bit at place `k` of a rotated byte comes from: the halves of the low six places swap (R96). -/
def rotPlace (k : Nat) : Nat := if k < 3 then k + 3 else if k < 6 then k - 3 else k

theorem getLsbD_rot (v : Byte) {k : Nat} (inByte : k < 8) :
    (rot Config.hardware v).getLsbD k = v.getLsbD (rotPlace k) := by
  rw [rot_amount_three v rfl, BitVec.getLsbD_append, BitVec.getLsbD_append]
  interval_cases k <;> simp [rotPlace]

/-- Settles O39: the rotation keeps the upper slice and swaps the two lower ones, which makes it an involution, gives its
fixed points and its commuting with changes of bits 7:6; the places of its bits are a permutation. The number of fixed
points is a count over the 256 bytes. -/
theorem rotationProperties : Obligations.RotationProperties := by
  unfold Obligations.RotationProperties
  refine ⟨fun v => ?involution, fun v => ?ones, fun v => ?fixed, ?count, fun v m upper => ?commutes⟩
  case involution =>
    obtain ⟨upper, middle, lower⟩ := slices_rot v
    obtain ⟨upper', middle', lower'⟩ := slices_rot (rot Config.hardware v)
    exact byte_ext_slices (upper'.trans upper) (middle'.trans lower) (lower'.trans middle)
  case ones =>
    have moved : (List.range 8).countP (fun k => (rot Config.hardware v).getLsbD k) =
        (List.range 8).countP ((fun k => v.getLsbD k) ∘ rotPlace) :=
      List.countP_congr fun k inByte => by rw [getLsbD_rot v (List.mem_range.mp inByte)]; rfl
    have permuted : ((List.range 8).map rotPlace).Perm (List.range 8) := by decide
    rw [moved, ← List.countP_map, permuted.countP_eq]
  case fixed =>
    obtain ⟨upper, middle, lower⟩ := slices_rot v
    constructor
    · intro same
      rw [same] at middle
      exact middle
    · exact fun halves => byte_ext_slices upper (middle.trans halves.symm) (lower.trans halves)
  case count => decide +kernel
  case commutes =>
    obtain ⟨upperV, middleV, lowerV⟩ := slices_rot v
    obtain ⟨upperX, middleX, lowerX⟩ := slices_rot (v ^^^ m)
    have middleM : m.extractLsb' 3 3 = 0 := by
      rw [← BitVec.extractLsb'_extractLsb'_of_le (len' := 6) (by decide), upper]
      rfl
    have lowerM : m.extractLsb' 0 3 = 0 := by
      rw [← BitVec.extractLsb'_extractLsb'_of_le (len' := 6) (by decide), upper]
      rfl
    apply byte_ext_slices
    · rw [upperX, BitVec.extractLsb'_xor, BitVec.extractLsb'_xor, upperV]
    · rw [middleX, BitVec.extractLsb'_xor, BitVec.extractLsb'_xor, middleV, middleM, lowerM]
    · rw [lowerX, BitVec.extractLsb'_xor, BitVec.extractLsb'_xor, lowerV, middleM, lowerM]

/-- Settles O58: the port is idle, so both have their effect, which emits 0x00 and writes no register (R106). -/
theorem reservedOpcodesOnlyAnswer : Obligations.ReservedOpcodesOnlyAnswer := by
  unfold Obligations.ReservedOpcodesOnlyAnswer
  intro s op idle
  exact ⟨exec_command_idle rfl idle, exec_command_idle rfl idle⟩

/-- Settles O59: the reset state's configuration is the hardware's by definition, and its values are literals in the ranges
of a legal configuration. -/
theorem resetHoldsTheHardwareConfiguration : Obligations.ResetHoldsTheHardwareConfiguration := by
  unfold Obligations.ResetHoldsTheHardwareConfiguration
  exact ⟨rfl, by decide⟩

end Sys2Proof.Proofs
end

section
/-! PROOF. Runs of the host port: the length of a wait (`42_delay.md`) and the course of a commit
(`44_buffer_pipeline.md`), whatever the periodic agents do beside. -/

namespace Sys2Proof.Proofs
open Sys2Proof.Machine Sys2Proof.Safety

/-! ### Waiting -/

/-- The registers of the host group are the same in two states. -/
def SameHostGroup (s t : State) : Prop :=
  t.hs = s.hs ∧ t.waitTarget = s.waitTarget ∧ t.rspHold = s.rspHold ∧ t.pending = s.pending ∧
    t.committed = s.committed ∧ t.dimDivisor = s.dimDivisor ∧ t.commitIdx = s.commitIdx

theorem SameHostGroup.trans {s t u : State} (first : SameHostGroup s t) (second : SameHostGroup t u) :
    SameHostGroup s u := by
  obtain ⟨hs, waitTarget, rspHold, pending, committed, dimDivisor, commitIdx⟩ := first
  obtain ⟨hs', waitTarget', rspHold', pending', committed', dimDivisor', commitIdx'⟩ := second
  exact ⟨hs'.trans hs, waitTarget'.trans waitTarget, rspHold'.trans rspHold, pending'.trans pending,
    committed'.trans committed, dimDivisor'.trans dimDivisor, commitIdx'.trans commitIdx⟩

/-- The agents of an instant leave the host group and the cleared response alone. -/
theorem sameHostGroup_agentPhases (v : StimVec) (s : State) :
    SameHostGroup s (agentPhases v (beginInstant s)) ∧ (agentPhases v (beginInstant s)).rsp = none := by
  simp [SameHostGroup]

/-- One line without reset and without the last tick of a wait. -/
theorem step_waiting_on {s : State} {v : StimVec} {rest : List StimVec} (waits : s.hs = .wait) (divisor : s.dimDivisor ≠ 0)
    (placed : s.trace = v :: rest) (noReset : v.getLsbD 21 = false)
    (notYet : v.getLsbD 19 = true → s.tickCounter + 1 ≠ s.waitTarget) :
    ∃ t, step s = .next t ∧ SameHostGroup s t ∧ t.rsp = none ∧ t.trace = rest ∧
      t.tickCounter = s.tickCounter + BitVec.ofNat 8 (v.getLsbD 19).toNat := by
  obtain rfl := nextStim_placed placed
  obtain ⟨same, silent⟩ := sameHostGroup_agentPhases (nextStim s) s
  have counter : (agentPhases (nextStim s) (beginInstant s)).tickCounter =
      s.tickCounter + BitVec.ofNat 8 ((nextStim s).getLsbD 19).toNat := by
    rw [agentPhases_tickCounter, beginInstant_tickCounter]
    cases (nextStim s).getLsbD 19 <;> simp
  have unchanged : hostAction s.hs (nextStim s) (agentPhases (nextStim s) (beginInstant s)) =
      agentPhases (nextStim s) (beginInstant s) := by
    rw [waits, hostAction]
    by_cases strobe : (nextStim s).getLsbD 19 = true
    · rw [if_pos strobe]
      refine if_neg ?_
      rw [agentPhases_tickCounter, if_pos strobe, agentPhases_waitTarget, beginInstant_tickCounter, beginInstant_waitTarget]
      exact notYet strobe
    · exact if_neg strobe
  refine ⟨_, step_quiet noReset fun _ => divisor, ?_⟩
  rw [unchanged]
  exact ⟨same, silent, by simp [placed], counter⟩

/-- The line with the last tick of a wait (R86). -/
theorem step_waiting_ends {s : State} {v : StimVec} {rest : List StimVec} (waits : s.hs = .wait) (divisor : s.dimDivisor ≠ 0)
    (placed : s.trace = v :: rest) (noReset : v.getLsbD 21 = false) (strobe : v.getLsbD 19 = true)
    (target : s.tickCounter + 1 = s.waitTarget) :
    ∃ t, step s = .next t ∧ t.hs = .idle ∧ t.rsp = some s.rspHold ∧ t.trace = rest ∧ t.tickCounter = s.waitTarget := by
  obtain rfl := nextStim_placed placed
  have counter : (agentPhases (nextStim s) (beginInstant s)).tickCounter = s.waitTarget := by
    rw [agentPhases_tickCounter, if_pos strobe, beginInstant_tickCounter, target]
  have reached : (agentPhases (nextStim s) (beginInstant s)).tickCounter =
      (agentPhases (nextStim s) (beginInstant s)).waitTarget := by
    rw [counter, agentPhases_waitTarget, beginInstant_waitTarget]
  have ended : hostAction s.hs (nextStim s) (agentPhases (nextStim s) (beginInstant s)) =
      emit (agentPhases (nextStim s) (beginInstant s)).rspHold
        { agentPhases (nextStim s) (beginInstant s) with hs := .idle } := by
    rw [waits, hostAction, if_pos strobe]
    exact if_pos reached
  refine ⟨_, step_quiet noReset fun _ => divisor, ?_⟩
  rw [ended]
  exact ⟨rfl, by simp, by simp [placed], counter⟩

/-- A target more than one and at most 256 ticks ahead is not the next value of the counter (R88). -/
theorem target_ne_next {n : Nat} (more : 1 < n) (within : n ≤ 256) (c : Byte) : c + 1 ≠ c + BitVec.ofNat 8 n := by
  intro same
  have values := congrArg BitVec.toNat ((BitVec.add_right_inj c).mp same)
  rw [BitVec.toNat_ofNat] at values
  change 1 = _ at values
  omega

/-- While fewer than `n` ticks have come, the wait goes on and the host group is as it was (R88, R139). -/
theorem runSteps_waiting {n : Nat} {s : State} {lines rest : List StimVec} (within : n ≤ 256) (waits : s.hs = .wait)
    (divisor : s.dimDivisor ≠ 0) (target : s.waitTarget = s.tickCounter + BitVec.ofNat 8 n)
    (placed : s.trace = lines ++ rest) (noReset : ∀ v ∈ lines, v.getLsbD 21 = false)
    (fewer : lines.countP (fun v => v.getLsbD 19) < n) :
    ∃ t, runSteps lines.length s = .next t ∧ SameHostGroup s t ∧ t.trace = rest ∧
      t.tickCounter = s.tickCounter + BitVec.ofNat 8 (lines.countP fun v => v.getLsbD 19) ∧
      (lines ≠ [] → t.rsp = none) := by
  induction lines generalizing s n with
  | nil => exact ⟨s, rfl, ⟨rfl, rfl, rfl, rfl, rfl, rfl, rfl⟩, placed, by simp, fun some => absurd rfl some⟩
  | cons v lines ih =>
    have count : (v :: lines).countP (fun v => v.getLsbD 19) =
        lines.countP (fun v => v.getLsbD 19) + (v.getLsbD 19).toNat := by
      rw [List.countP_cons]
      cases v.getLsbD 19 <;> rfl
    rw [count] at fewer ⊢
    obtain ⟨m, stepped, same, silent, rest', counter⟩ := step_waiting_on waits divisor placed (noReset v List.mem_cons_self)
      (fun strobe => by
        rw [strobe, Bool.toNat_true] at fewer
        rw [target]
        exact target_ne_next (by omega) within s.tickCounter)
    obtain ⟨hs, waitTarget, -, -, -, dimDivisor, -⟩ := id same
    have left : n = (v.getLsbD 19).toNat + (n - (v.getLsbD 19).toNat) := by omega
    have target' : m.waitTarget = m.tickCounter + BitVec.ofNat 8 (n - (v.getLsbD 19).toNat) := by
      rw [waitTarget, counter, target, BitVec.add_assoc, ← BitVec.ofNat_add, ← left]
    obtain ⟨t, ran, same', rest'', counter', silent'⟩ := ih (n := n - (v.getLsbD 19).toNat) (by omega) (hs.trans waits)
      (dimDivisor ▸ divisor) target' rest' (fun w later => noReset w (List.mem_cons_of_mem _ later)) (by omega)
    refine ⟨t, ?_, same.trans same', rest'', ?_, fun _ => ?_⟩
    · rw [List.length_cons, runSteps_succ, stepped, andThen_next, ran]
    · rw [counter', counter, BitVec.add_assoc, ← BitVec.ofNat_add, Nat.add_comm (v.getLsbD 19).toNat]
    · cases lines with
      | nil =>
        cases ran
        exact silent
      | cons w lines => exact silent' (List.cons_ne_nil _ _)

/-- Settles O35: before the n-th tick the wait goes on, and that tick brings the counter to the target, where
WAITCHECK ends the wait with the held response. -/
theorem waitLastsExactlyNTicks : Obligations.WaitLastsExactlyNTicks := by
  unfold Obligations.WaitLastsExactlyNTicks
  intro s n lines rest positive within waits divisor target placed noReset
  refine ⟨fun fewer => ?waiting, fun before v last strobe nth => ?ends⟩
  case waiting =>
    obtain ⟨t, ran, same, rest', counter, silent⟩ := runSteps_waiting within waits divisor target placed noReset fewer
    obtain ⟨hs, waitTarget, rspHold, pending, committed, dimDivisor, commitIdx⟩ := same
    exact ⟨t, ran, hs.trans waits, rest', counter, waitTarget, rspHold, pending, committed, dimDivisor, commitIdx, silent⟩
  case ends =>
    subst last
    rw [List.append_assoc] at placed
    obtain ⟨m, ran, same, rest', counter, -⟩ := runSteps_waiting within waits divisor target placed
      (fun w earlier => noReset w (List.mem_append_left _ earlier)) (by omega)
    obtain ⟨hs, waitTarget, rspHold, -, -, dimDivisor, -⟩ := same
    have next : m.tickCounter + 1 = m.waitTarget := by
      rw [waitTarget, counter, target, ← nth, BitVec.ofNat_add, BitVec.add_assoc]
      rfl
    obtain ⟨t, stepped, idle, answered, rest'', reached⟩ := step_waiting_ends (hs.trans waits) (dimDivisor ▸ divisor) rest'
      (noReset v (List.mem_append_right _ List.mem_cons_self)) strobe next
    refine ⟨t, ?_, idle, answered.trans (congrArg some rspHold), rest'', reached.trans waitTarget⟩
    rw [List.length_append, runSteps_add, ran, andThen_next, List.length_singleton, runSteps_succ, stepped, andThen_next,
      runSteps_zero]

/-! ### Committing -/

/-- The commit accepted in `s` has copied the slots below `j` (R102). -/
structure CommitProgress (s : State) (j : Nat) (t : State) : Prop where
  pending : t.pending = s.pending
  cfg : t.cfg = s.cfg
  dimDivisor : t.dimDivisor = s.dimDivisor
  committed : ∀ i, readComm t i = if i.toNat < j then commitByte s i else readComm s i
  hs : t.hs = if j < 4 then .commit else .idle
  rsp : t.rsp = if j < 4 then none else some 0x00
  commitIdx : j < 4 → t.commitIdx = BitVec.ofNat 2 j

/-- An accepted COMMIT that is not atomic has copied nothing yet (R99). -/
theorem step_commit_accepted {s : State} {v : StimVec} {rest : List StimVec} (idle : s.hs = .idle)
    (notAtomic : s.cfg.commitAtomic = false) (divisor : s.dimDivisor ≠ 0) (placed : s.trace = v :: rest)
    (noReset : v.getLsbD 21 = false) (presented : v.getLsbD 16 = true) (opcode : v.extractLsb' 12 4 = 5#4) :
    ∃ t, step s = .next t ∧ t.trace = rest ∧ CommitProgress s 0 t := by
  obtain rfl := nextStim_placed placed
  have isCommit : decodeCmd ((nextStim s).extractLsb' 0 16) = .commit := by
    rw [decodeCmd, (operands_command (nextStim s)).1, opcode]
    rfl
  have accepted : hostAction s.hs (nextStim s) (agentPhases (nextStim s) (beginInstant s)) =
      beginCommit (agentPhases (nextStim s) (beginInstant s)) := by
    rw [idle, hostAction, if_pos presented, isCommit]
    exact if_neg (by simp [notAtomic])
  refine ⟨_, step_quiet noReset fun _ => divisor, ?_⟩
  rw [accepted]
  refine ⟨by simp [placed], ?_⟩
  constructor <;> simp [readComm]

/-- What a commit writes depends on the pending buffer and the configuration alone. -/
theorem commitByte_congr {s t : State} (pending : t.pending = s.pending) (cfg : t.cfg = s.cfg) (i : BitVec 2) :
    commitByte t i = commitByte s i := by
  rw [commitByte, commitByte, readPend, readPend, pending, cfg]

/-- COMMITSTEP copies the next slot and leaves the others alone (R100). -/
theorem readComm_commitProgress {s m : State} {j : Nat} (progress : CommitProgress s j m) (running : j < 4)
    (i : BitVec 2) :
    readComm (commitOneSlot m) i = if i.toNat < j + 1 then commitByte s i else readComm s i := by
  have next : m.commitIdx.toNat = j := by
    rw [progress.commitIdx running, BitVec.toNat_ofNat]
    exact Nat.mod_eq_of_lt running
  rw [readComm_commitOneSlot]
  by_cases written : m.commitIdx = i
  · rw [← written, readComm_copySlot_same, commitByte_congr progress.pending progress.cfg, if_pos (by omega)]
  · have other : i.toNat ≠ j := fun same => written (BitVec.eq_of_toNat_eq (next.trans same.symm))
    have sameSide : i.toNat < j ↔ i.toNat < j + 1 := by omega
    rw [readComm_copySlot_other m written, progress.committed, if_congr sameSide rfl rfl]

/-- COMMITSTEP takes a commit in progress one slot further, and ends it after the fourth (R100). -/
theorem commitProgress_commitOneSlot {s m : State} {j : Nat} (progress : CommitProgress s j m) (running : j < 4) :
    CommitProgress s (j + 1) (commitOneSlot m) := by
  have next := progress.commitIdx running
  have lastIff : m.commitIdx = 3 ↔ j = 3 := by
    rw [next]
    interval_cases j <;> decide
  have copied := readComm_commitProgress progress running
  have hs : m.hs = .commit := progress.hs.trans (if_pos running)
  have silent : m.rsp = none := progress.rsp.trans (if_pos running)
  obtain ⟨last, ended⟩ | ⟨notLast, advanced⟩ := commitOneSlot_cases m
  · have done : ¬ j + 1 < 4 := by rw [lastIff] at last; omega
    rw [ended] at copied ⊢
    exact ⟨progress.pending, progress.cfg, progress.dimDivisor, copied, (if_neg done).symm, (if_neg done).symm,
      fun more => absurd more done⟩
  · have more : j + 1 < 4 := by rw [ne_eq, lastIff] at notLast; omega
    rw [advanced] at copied ⊢
    exact ⟨progress.pending, progress.cfg, progress.dimDivisor, copied, hs.trans (if_pos more).symm,
      silent.trans (if_pos more).symm, fun _ => by rw [next, BitVec.ofNat_add]; rfl⟩

/-- The periodic agents do not touch a commit in progress, and no response is left from the instant before. -/
theorem commitProgress_agentPhases {s m : State} {j : Nat} (v : StimVec) (progress : CommitProgress s j m)
    (running : j < 4) : CommitProgress s j (agentPhases v (beginInstant m)) := by
  obtain ⟨pending, cfg, dimDivisor, committed, hs, -, commitIdx⟩ := progress
  constructor
  case rsp => simp [running]
  all_goals simpa [readComm]

/-- One more instant without reset copies one more slot, whatever else it brings. -/
theorem step_commitProgress {s m : State} {j : Nat} {v : StimVec} {rest : List StimVec} (progress : CommitProgress s j m)
    (running : j < 4) (divisor : s.dimDivisor ≠ 0) (placed : m.trace = v :: rest) (noReset : v.getLsbD 21 = false) :
    ∃ t, step m = .next t ∧ t.trace = rest ∧ CommitProgress s (j + 1) t := by
  obtain rfl := nextStim_placed placed
  have committing : m.hs = .commit := progress.hs.trans (if_pos running)
  have stepped := step_quiet noReset fun _ => progress.dimDivisor ▸ divisor
  refine ⟨_, stepped, by simp [placed], ?_⟩
  rw [committing]
  exact commitProgress_commitOneSlot (commitProgress_agentPhases _ progress running) running

/-- So do several instants. -/
theorem runSteps_commitProgress {s m : State} {j : Nat} {lines rest : List StimVec} (progress : CommitProgress s j m)
    (within : j + lines.length ≤ 4) (divisor : s.dimDivisor ≠ 0) (placed : m.trace = lines ++ rest)
    (noReset : ∀ w ∈ lines, w.getLsbD 21 = false) :
    ∃ t, runSteps lines.length m = .next t ∧ CommitProgress s (j + lines.length) t := by
  induction lines generalizing j m with
  | nil => exact ⟨m, rfl, progress⟩
  | cons w lines ih =>
    rw [List.length_cons] at within ⊢
    obtain ⟨next, stepped, rest', progress'⟩ :=
      step_commitProgress progress (by omega) divisor placed (noReset w List.mem_cons_self)
    obtain ⟨t, ran, copied⟩ := ih progress' (by omega) rest' fun v later => noReset v (List.mem_cons_of_mem _ later)
    refine ⟨t, ?_, ?_⟩
    · rw [runSteps_succ, stepped, andThen_next, ran]
    · rwa [Nat.add_right_comm, Nat.add_assoc] at copied

/-- Settles O44: the accepted COMMIT has copied no slot, each further instant copies the next one, and what is copied into
slot 2 is rotated. -/
theorem commitPostcondition : Obligations.CommitPostcondition := by
  unfold Obligations.CommitPostcondition
  intro s v lines rest idle notAtomic rotSlot divisor placed noReset presented opcode atMost noLaterReset
  obtain ⟨m, stepped, rest', begun⟩ := step_commit_accepted idle notAtomic divisor placed noReset presented opcode
  obtain ⟨t, ran, progress⟩ := runSteps_commitProgress begun (by omega) divisor rest' noLaterReset
  rw [Nat.zero_add] at progress
  refine ⟨t, ?_, progress.pending, fun i => ?_, progress.hs, progress.rsp⟩
  · rw [Nat.add_comm, runSteps_succ, stepped, andThen_next, ran]
  · rw [progress.committed]
    congr 1
    split
    next isTwo => rw [isTwo, commitByte_rotSlot rotSlot.symm]
    next notTwo => exact commitByte_other (rotSlot ▸ notTwo)

end Sys2Proof.Proofs
end
